-- ==== Sys2Proof/Word.lean ====
section
/-!
DEFINITION. The bit vectors of the machine: what the spec treats as bits (00_scope.md R7, 30_encoding.md R80, R81).
-/

namespace Sys2Proof

/-- A register value, the program counter, a 64-bit engine counter: `XLEN = 64` (R7). A register and the program
counter are read as signed two's complement (`BitVec.toInt`), a counter as unsigned (`BitVec.toNat`). -/
abbrev Word := BitVec 64

/-- One of the four fields of an instruction record, an unsigned 32-bit number: `FLDW = 32` (R7, R80). -/
abbrev Field := BitVec 32

/-- The instruction word: the record packed into 128 bits (R81). -/
abbrev InstrWord := BitVec 128

/-- The instruction-pointer register binding `IPSEL`, 3 bits (10_state.md R27). -/
abbrev IpSel := BitVec 3

end Sys2Proof
end

