-- ==== Sys2Proof/Syntax.lean ====
section
/-!
DEFINITION. The instruction set as syntax: one constructor per row of spec/opcode_table.json, in the table's order
(30_encoding.md R84). The opcode set is closed (R86).
-/

namespace Sys2Proof

/-- The field of an instruction that holds a register index, or the binding itself: what `FAULTFLD` names
(10_state.md R33). -/
inductive FieldId where
  | a
  | b
  | c
  | ipsel
  deriving DecidableEq, Repr

/-- The two bits of `FAULTFLD` (10_state.md R33). -/
def FieldId.code : FieldId → BitVec 2
  | .a => 0
  | .b => 1
  | .c => 2
  | .ipsel => 3

/-- The 16 defined instructions. Every constructor holds the three operand fields `a`, `b`, `c` of the record whole
(R80): a register index above 5 is legal syntax and is found only when the instruction is executed (R90, R101), and the
ignored `b` of `setr` and `seti` is part of the record (R91). -/
inductive Instr where
  /-- add-register, class RR: R120. -/
  | addr (a b c : Field)
  /-- add-immediate, class RI: R121. -/
  | addi (a b c : Field)
  /-- mul-register, class RR: R122. -/
  | mulr (a b c : Field)
  /-- mul-immediate, class RI: R123. -/
  | muli (a b c : Field)
  /-- and-register, class RR: R130. -/
  | banr (a b c : Field)
  /-- and-immediate, class RI: R131. -/
  | bani (a b c : Field)
  /-- or-register, class RR: R132. -/
  | borr (a b c : Field)
  /-- or-immediate, class RI: R133. -/
  | bori (a b c : Field)
  /-- set-register, class RX: R140. -/
  | setr (a b c : Field)
  /-- set-immediate, class IX: R141. -/
  | seti (a b c : Field)
  /-- gt-immediate-register, class IR: R150. -/
  | gtir (a b c : Field)
  /-- gt-register-immediate, class RI: R151. -/
  | gtri (a b c : Field)
  /-- gt-register-register, class RR: R152. -/
  | gtrr (a b c : Field)
  /-- eq-immediate-register, class IR: R153. -/
  | eqir (a b c : Field)
  /-- eq-register-immediate, class RI: R154. -/
  | eqri (a b c : Field)
  /-- eq-register-register, class RR: R155. -/
  | eqrr (a b c : Field)
  deriving DecidableEq, Repr

/-- The destination field `c`, "always a register index that receives the result" (R88). -/
def Instr.dest : Instr → Field
  | .addr _ _ c | .addi _ _ c | .mulr _ _ c | .muli _ _ c | .banr _ _ c | .bani _ _ c | .borr _ _ c | .bori _ _ c
  | .setr _ _ c | .seti _ _ c | .gtir _ _ c | .gtri _ _ c | .gtrr _ _ c | .eqir _ _ c | .eqri _ _ c | .eqrr _ _ c => c

end Sys2Proof
end

