-- ==== Sys2Proof/Decode.lean ====
section
/-!
DEFINITION. The decoder, total on all 2^128 words (30_encoding.md R95), and after it the encoder, both from the word layout
of R81 and the opcode map of R84.
-/

namespace Sys2Proof

/-- `word[127:96]` (R81). -/
def wordOpcode (w : InstrWord) : Field := w.extractLsb' 96 32

/-- `word[95:64]` (R81). -/
def wordA (w : InstrWord) : Field := w.extractLsb' 64 32

/-- `word[63:32]` (R81). -/
def wordB (w : InstrWord) : Field := w.extractLsb' 32 32

/-- `word[31:0]` (R81). -/
def wordC (w : InstrWord) : Field := w.extractLsb' 0 32

/-- What phase 6 makes of a word: one of the 16 instructions, or an unknown opcode with the opcode field's value
(R93; 45_cycle_and_control_flow.md R177). -/
inductive Decoded where
  | instr (i : Instr)
  | unknownOpcode (opcode : Field)
  deriving DecidableEq, Repr

/-- The opcode map of R84; any opcode field above 15 is rejected by name as unknown (R93). -/
def decode (w : InstrWord) : Decoded :=
  match (wordOpcode w).toNat with
  | 0 => .instr (.addr (wordA w) (wordB w) (wordC w))
  | 1 => .instr (.addi (wordA w) (wordB w) (wordC w))
  | 2 => .instr (.mulr (wordA w) (wordB w) (wordC w))
  | 3 => .instr (.muli (wordA w) (wordB w) (wordC w))
  | 4 => .instr (.banr (wordA w) (wordB w) (wordC w))
  | 5 => .instr (.bani (wordA w) (wordB w) (wordC w))
  | 6 => .instr (.borr (wordA w) (wordB w) (wordC w))
  | 7 => .instr (.bori (wordA w) (wordB w) (wordC w))
  | 8 => .instr (.setr (wordA w) (wordB w) (wordC w))
  | 9 => .instr (.seti (wordA w) (wordB w) (wordC w))
  | 10 => .instr (.gtir (wordA w) (wordB w) (wordC w))
  | 11 => .instr (.gtri (wordA w) (wordB w) (wordC w))
  | 12 => .instr (.gtrr (wordA w) (wordB w) (wordC w))
  | 13 => .instr (.eqir (wordA w) (wordB w) (wordC w))
  | 14 => .instr (.eqri (wordA w) (wordB w) (wordC w))
  | 15 => .instr (.eqrr (wordA w) (wordB w) (wordC w))
  | _ => .unknownOpcode (wordOpcode w)

/-- `word = {opcode, a, b, c}`, the opcode in the high bits (R81). -/
def packWord (opcode a b c : Field) : InstrWord := opcode ++ a ++ b ++ c

/-- The word of an instruction (R81, R84). -/
def encode : Instr → InstrWord
  | .addr a b c => packWord 0x00000000 a b c
  | .addi a b c => packWord 0x00000001 a b c
  | .mulr a b c => packWord 0x00000002 a b c
  | .muli a b c => packWord 0x00000003 a b c
  | .banr a b c => packWord 0x00000004 a b c
  | .bani a b c => packWord 0x00000005 a b c
  | .borr a b c => packWord 0x00000006 a b c
  | .bori a b c => packWord 0x00000007 a b c
  | .setr a b c => packWord 0x00000008 a b c
  | .seti a b c => packWord 0x00000009 a b c
  | .gtir a b c => packWord 0x0000000A a b c
  | .gtri a b c => packWord 0x0000000B a b c
  | .gtrr a b c => packWord 0x0000000C a b c
  | .eqir a b c => packWord 0x0000000D a b c
  | .eqri a b c => packWord 0x0000000E a b c
  | .eqrr a b c => packWord 0x0000000F a b c

/-- The instruction word whose low `nbits` bits are those of `w` and whose other bits are 0. Every instruction is one
128-bit word (R82), so the table's numbering of its bits is R81's. -/
def tableWord (nbits w : Nat) : InstrWord := BitVec.ofNat 128 (w % 2 ^ nbits)

/-- The instruction the decoder reads from the table word, none for an unknown opcode. -/
def decodeTableWord (nbits w : Nat) : Option Instr :=
  match decode (tableWord nbits w) with
  | .instr i => some i
  | .unknownOpcode _ => none

end Sys2Proof
end

