-- ==== Sys2Proof/Config.lean ====
section
/-!
DEFINITION. What one implementation of the machine fixes (00_scope.md R7 to R9). The spec leaves no value of an
instruction open, so there is no free value here.
-/

namespace Sys2Proof

/-- `NREG`: the number of general registers (00_scope.md R7). -/
abbrev Config.nreg : Nat := 6

/-- `IMEM_DEPTH`: the capacity of the program store in instruction words. 00_scope.md R9 leaves it open below `2^63` and
lets a model leave it unbounded: this is the largest value the rule allows. DESIGN CHOICE, log entry 2, unsafe. -/
def Config.imemDepth : Nat := 2 ^ 63 - 1

end Sys2Proof
end

