-- ==== Sys2Proof/Machine/State.lean ====
section
/-!
DEFINITION. The state of the machine as plain data (10_state.md), the reasons a step can stop, and the state after reset
(10_state.md R40, 70_reset_and_hazards.md R240).
-/

namespace Sys2Proof.Machine

/-- A register number, 0..5 (10_state.md R20). -/
abbrev RegIdx := Fin Config.nreg

/-- The six general registers `x[0]`..`x[5]` (10_state.md R20). -/
abbrev RegFile := Vector Word Config.nreg

/-- All six registers zero, the source's start value (10_state.md R40). -/
def RegFile.zero : RegFile := Vector.replicate Config.nreg 0

/-- `STATUS` (10_state.md R32); its values 6 and 7 are never produced and have no constructor. -/
inductive Status where
  | idle
  | running
  | halted
  | faultRegIdx
  | stepBound
  | cancelled
  deriving DecidableEq, Repr

/-- The three bits of `STATUS` (10_state.md R32, 60_exceptions.md R201). -/
def Status.code : Status → BitVec 3
  | .idle => 0
  | .running => 1
  | .halted => 2
  | .faultRegIdx => 3
  | .stepBound => 4
  | .cancelled => 5

/-- The run has ended: `STATUS` is one of 2 to 5 (45_cycle_and_control_flow.md R192). -/
def Status.stopped : Status → Bool
  | .idle | .running => false
  | .halted | .faultRegIdx | .stepBound | .cancelled => true

/-- An event the CORE puts out (60_exceptions.md R221, R222). -/
inductive Event where
  /-- `warn(UnknownOpcode, pc, opcode)` (R221). -/
  | warn (pc : Word) (opcode : Field)
  /-- `progress(STEPS, x[0..5], pc)` (R222). -/
  | progress (steps : Word) (regs : RegFile) (pc : Word)
  deriving DecidableEq, Repr

/-- The arguments of `LOAD(IPSEL, PROGRAM, [MAXSTEPS], [PROGRESS_N])` (70_reset_and_hazards.md R241). -/
structure LoadArgs where
  ipsel : IpSel
  program : List InstrWord
  maxSteps : Option Word
  progressN : Option Word
  deriving DecidableEq, Repr

/-- A move of the host (10_state.md R43). -/
inductive HostMove where
  /-- No move: the engine has its turn. -/
  | wait
  /-- `RESET` (70_reset_and_hazards.md R240). -/
  | reset
  /-- `LOAD` (R241). -/
  | load (args : LoadArgs)
  /-- `START([INIT_R], [INIT_PC])` (R243). -/
  | start (initR : Option RegFile) (initPc : Option Word)
  /-- The host drives the level input `CANCEL` (10_state.md R35). -/
  | setCancel (level : Bool)
  deriving DecidableEq, Repr

/-- Why a step stops with no next state. The machine's own conditions are all next states (60_exceptions.md R212); these
two mark states that no run reaches. -/
inductive Fault where
  /-- Raised by the mirror write of a RUNNING state whose `IPSEL` is 6 or 7: there is no such register. START lets no such
  run begin (60_exceptions.md R207), so no run reaches it. Safe (log entry 13). -/
  | noInstructionPointerRegister
  /-- Raised by a fetch at an index that holds no word. The bounds test precedes every fetch (20_memory.md R63), so it is
  never reached. Safe (log entry 14). -/
  | fetchOutsideProgram
  deriving DecidableEq, Repr

/-- Why a step is refused. -/
inductive Refusal where
  /-- Raised by an arm of exec whose instruction has no meaning yet; no arm is left so. Safe. -/
  | notModelled (mnemonic : String)
  /-- Raised by the host's LOAD while `STATUS = RUNNING`, where it is not legal (70_reset_and_hazards.md R241). Safe. -/
  | loadWhileRunning
  /-- Raised by the host's LOAD of a program longer than `IMEM_DEPTH`, which cannot be performed (R241). Safe. -/
  | programTooLong
  /-- Raised by the host's START while `STATUS = RUNNING`, where it is not legal (R243). Safe. -/
  | startWhileRunning
  /-- Raised by the host's START with no LOAD since reset, which R243 refuses. Safe. -/
  | startBeforeLoad
  deriving DecidableEq, Repr

/-- The state of the machine. The fields from `cancel` on are not state of the CORE: its input, its output and the host. -/
structure State where
  /-- `x[0..5]` (10_state.md R20). -/
  regs : RegFile
  /-- `pc`, read as signed (R25). -/
  pc : Word
  /-- `IPSEL` (R27). -/
  ipsel : IpSel
  /-- `PROGRAM[0 .. LEN-1]`; `LEN` is its length (R28). -/
  program : List InstrWord
  /-- `STEPS`, unsigned (R29). -/
  steps : Word
  /-- `MAXSTEPS_EN` (R30). -/
  maxStepsEn : Bool
  /-- `MAXSTEPS`, unsigned (R30). -/
  maxSteps : Word
  /-- `PROGRESS_N`, unsigned, 0 = off (R31). -/
  progressN : Word
  /-- `STATUS` (R32). -/
  status : Status
  /-- `FAULTPC`, valid only in FAULT_REGIDX (R33). -/
  faultPc : Word
  /-- `FAULTIDX` (R33). -/
  faultIdx : Field
  /-- `FAULTFLD` (R33). -/
  faultFld : FieldId
  /-- `UNKF` (R34). -/
  unkF : Bool
  /-- `UNKCNT`, unsigned (R34). -/
  unkCnt : Word
  /-- `UNKPC`, valid only while `UNKF = 1` (R34). -/
  unkPc : Word
  /-- `UNKOP` (R34). -/
  unkOp : Field
  /-- A LOAD has been performed since reset: START is legal only then (70_reset_and_hazards.md R243). -/
  loaded : Bool
  /-- The level of the input `CANCEL` (R35). DESIGN CHOICE, log entry 7. -/
  cancel : Bool
  /-- The events put out so far, oldest first (60_exceptions.md R221, R222). DESIGN CHOICE, log entry 9. -/
  events : List Event
  /-- The host's coming moves, the next one first; past its end the host makes none. The model's own field.
  DESIGN CHOICE, log entry 8. -/
  hostScript : List HostMove
  deriving DecidableEq, Repr

/-- The form of the program store that every operation keeps: it fits the store's capacity (00_scope.md R9), so that every
valid instruction index is a non-negative 64-bit signed number. A list has one form for each store: position `i` holds the
word at index `i`, and an index past the end holds nothing (20_memory.md R60, log entry 1). -/
def Memory.wf (program : List InstrWord) : Bool := decide (program.length ≤ Config.imemDepth)

/-- The machine right after reset (10_state.md R40). `ipsel`, `faultPc`, `faultIdx`, `faultFld`, `unkPc` and `unkOp` are
unspecified there: DESIGN CHOICE, log entries 3 to 6, unsafe. `cancel`, `events` and `hostScript` are not the CORE's:
DESIGN CHOICE, log entries 7 to 9. -/
def State.reset : State where
  regs := RegFile.zero
  pc := 0
  ipsel := 0
  program := []
  steps := 0
  maxStepsEn := false
  maxSteps := 0
  progressN := 0
  status := .idle
  faultPc := 0
  faultIdx := 0
  faultFld := .a
  unkF := false
  unkCnt := 0
  unkPc := 0
  unkOp := 0
  loaded := false
  cancel := false
  events := []
  hostScript := []

end Sys2Proof.Machine
end

