-- ==== Sys2Proof/Machine/Ops.lean ====
section
/-!
DEFINITION. The named operations over registers, the program store and the engine's own state: each phase of the cycle
that is not an instruction's meaning (45_cycle_and_control_flow.md R171), and the taking of each condition
(60_exceptions.md R212). There is no return from an exception (R213): the host resumes with START (Machine/HostOps.lean).
-/

namespace Sys2Proof.Machine

/-- `wrap64(n)`: the 64-bit two's-complement value congruent to `n` modulo `2^64` (00_scope.md section 5). -/
def wrap64 (n : Int) : Word := BitVec.ofInt 64 n

/-- `zext_64(f)` of a 32-bit field (00_scope.md section 5). -/
def zext64 (f : Field) : Word := f.setWidth 64

/-- The register a field names, none for an index above 5; the field is compared as a full 32-bit number
(30_encoding.md R90). -/
def regIndex? (f : Field) : Option RegIdx := if h : f.toNat < Config.nreg then some ⟨f.toNat, h⟩ else none

/-- The instruction-pointer register's number, none for the illegal bindings 6 and 7 (10_state.md R27). -/
def ipIndex? (p : IpSel) : Option RegIdx := if h : p.toNat < Config.nreg then some ⟨p.toNat, h⟩ else none

/-- `x[r]` (00_scope.md section 6). -/
def State.readReg (s : State) (r : RegIdx) : Word := s.regs.get r

/-- `x[r] <- v` (00_scope.md section 6). -/
def State.writeReg (s : State) (r : RegIdx) (v : Word) : State := { s with regs := s.regs.set r v }

/-- `pc < 0 or pc >= LEN`, on the signed `pc` (45_cycle_and_control_flow.md R173). -/
def State.pcOutside (s : State) : Bool := decide (s.pc.toInt < 0 ∨ (s.program.length : Int) ≤ s.pc.toInt)

/-- `(MAXSTEPS_EN = 1 and STEPS >= MAXSTEPS) or STEPS = 2^64 - 1` (R175). -/
def State.atStepBound (s : State) : Bool :=
  (s.maxStepsEn && decide (s.maxSteps.toNat ≤ s.steps.toNat)) || decide (s.steps.toNat = 2 ^ 64 - 1)

/-- Phases 2 to 4: the first of the stopping tests that holds, in their order (R173 to R175; 60_exceptions.md R211). -/
def State.stopTest (s : State) : Option Status :=
  if s.pcOutside then some .halted
  else if s.cancel then some .cancelled
  else if s.atStepBound then some .stepBound
  else none

/-- A stop that records nothing but its status (60_exceptions.md R201, R203, R208, R209). -/
def State.stop (st : Status) (s : State) : State := { s with status := st }

/-- `MemRead(pc, 1)`: the instruction word at index `pc`; none where the store holds no word (20_memory.md R62). -/
def State.fetch (s : State) : Option InstrWord := s.program[s.pc.toNat]?

/-- Taking the exception RegisterIndexOutOfRange: the fault record is written and the run stops; no register, `pc` or
`STEPS` changes (60_exceptions.md R207, R212). One operation for an instruction's fields and for the binding. -/
def State.takeIndexFault (fld : FieldId) (idx : Field) (s : State) : State :=
  { s with faultPc := s.pc, faultIdx := idx, faultFld := fld, status := .faultRegIdx }

/-- The warning UnknownOpcode: its record and its event (60_exceptions.md R206, R221). -/
def State.warnUnknown (opcode : Field) (s : State) : State :=
  { s with unkF := true, unkCnt := s.unkCnt + 1, unkPc := s.pc, unkOp := opcode,
           events := s.events ++ [.warn s.pc opcode] }

/-- Phase 10, the control-flow latch: `pc <- wrap64(x[IPSEL] + 1)` (45_cycle_and_control_flow.md R181). -/
def State.latch (ip : RegIdx) (s : State) : State := { s with pc := wrap64 ((s.readReg ip).toInt + 1) }

/-- Phase 11: `STEPS <- STEPS + 1` (R182). -/
def State.count (s : State) : State := { s with steps := s.steps + 1 }

/-- The progress event of phase 12, if this step's count is a multiple of a nonzero interval (R183, 60_exceptions.md
R222). -/
def State.progressEvents (s : State) : List Event :=
  if 0 < s.progressN.toNat ∧ s.steps.toNat % s.progressN.toNat = 0 then [.progress s.steps s.regs s.pc] else []

/-- Phase 12 (R183). -/
def State.emitProgress (s : State) : State := { s with events := s.events ++ s.progressEvents }

/-- Phases 10 to 12, the end of every step (R181 to R183). -/
def State.finishStep (ip : RegIdx) (s : State) : State := ((s.latch ip).count).emitProgress

/-- Place a word where the next cycle fetches, with the engine started and nothing that stops the cycle before it fetches:
what LOAD and START of a program bring about (70_reset_and_hazards.md R241, R243; log entry 19). The word replaces the one
at `pc` where the program holds one there; otherwise it is a one-word program and `pc` is 0. -/
def State.placeForFetch (s : State) (w : InstrWord) : State :=
  { s with
    program := if s.pcOutside then [w] else s.program.set s.pc.toNat w
    pc := if s.pcOutside then 0 else s.pc
    ipsel := if (ipIndex? s.ipsel).isSome then s.ipsel else 0
    maxStepsEn := s.maxStepsEn && !s.atStepBound
    steps := if s.steps.toNat = 2 ^ 64 - 1 then 0 else s.steps
    status := .running
    loaded := true
    cancel := false
    hostScript := [] }

end Sys2Proof.Machine
end

