-- ==== Sys2Proof/Machine/Operands.lean ====
section
/-!
DEFINITION. The operand forms (30_encoding.md R85, R87 to R92) and phases 7 to 9 of the cycle, which all 16 instructions
share: index checks, operand reads, execution and write-back (45_cycle_and_control_flow.md R178 to R180).
-/

namespace Sys2Proof.Machine

/-- An operand field with its mode, which the opcode alone fixes (R85, R87). -/
inductive Operand where
  /-- Register mode: the field is a register index (R90). -/
  | reg (f : Field)
  /-- Immediate mode: the field's own value, zero-extended (R89). -/
  | imm (f : Field)
  /-- The field takes no part in the instruction (R91). -/
  | ignored (f : Field)
  deriving DecidableEq, Repr

/-- The field itself, whatever its mode. -/
def Operand.field : Operand → Field
  | .reg f | .imm f | .ignored f => f

/-- The operand's value; none where the mode is register and the index is above 5 (R89, R90). An ignored field is never
checked and its value never used (R91): the 0 given here reaches no result. -/
def Operand.value? (s : State) : Operand → Option Word
  | .reg f => (regIndex? f).map s.readReg
  | .imm f => some (zext64 f)
  | .ignored _ => some 0

/-- Phases 7 to 9: the checks in the order a, b, c, the first failure taking the exception before anything is written (R92);
then `x[c] <- result(u, v)` with both operands read before the write (R178 to R180). -/
def execute (a b : Operand) (c : Field) (result : Word → Word → Word) (s : State) : Host.Outcome State Fault Refusal :=
  match a.value? s, b.value? s, regIndex? c with
  | none, _, _ => .next (s.takeIndexFault .a a.field)
  | some _, none, _ => .next (s.takeIndexFault .b b.field)
  | some _, some _, none => .next (s.takeIndexFault .c c)
  | some u, some v, some d => .next (s.writeReg d (result u v))

end Sys2Proof.Machine
end

