-- ==== Sys2Proof/Machine/Arithmetic.lean ====
section
/-!
DEFINITION. The arithmetic instructions addr, addi, mulr, muli (40_arithmetic.md R120 to R124): signed 64-bit values,
computed exactly and wrapped.
-/

namespace Sys2Proof.Machine

/-- `wrap64(u + v)`, the exact sum wrapped (R124). -/
def sum (u v : Word) : Word := wrap64 (u.toInt + v.toInt)

/-- `wrap64(u * v)`, the exact product wrapped (R124). -/
def product (u v : Word) : Word := wrap64 (u.toInt * v.toInt)

/-- R120: `x[c] <- wrap64(x[a] + x[b])`. -/
def execAddr (a b c : Field) (s : State) : Host.Outcome State Fault Refusal :=
  execute (.reg a) (.reg b) c sum s

/-- R121: `x[c] <- wrap64(x[a] + zext_64(b))`. -/
def execAddi (a b c : Field) (s : State) : Host.Outcome State Fault Refusal :=
  execute (.reg a) (.imm b) c sum s

/-- R122: `x[c] <- wrap64(x[a] * x[b])`. -/
def execMulr (a b c : Field) (s : State) : Host.Outcome State Fault Refusal :=
  execute (.reg a) (.reg b) c product s

/-- R123: `x[c] <- wrap64(x[a] * zext_64(b))`. -/
def execMuli (a b c : Field) (s : State) : Host.Outcome State Fault Refusal :=
  execute (.reg a) (.imm b) c product s

end Sys2Proof.Machine
end

