-- ==== Sys2Proof/Machine/Bitwise.lean ====
section
/-!
DEFINITION. The bitwise instructions banr, bani, borr, bori (41_bitwise.md R130 to R134). That the operators act on the
two's-complement patterns is the spec's own passage from general knowledge (R134, 93 G3): UNVERIFIED, log entry 16.
-/

namespace Sys2Proof.Machine

/-- Bit `i` of the result is the AND of bit `i` of each operand (R134). -/
def bitAnd (u v : Word) : Word := u &&& v

/-- Bit `i` of the result is the OR of bit `i` of each operand (R134). -/
def bitOr (u v : Word) : Word := u ||| v

/-- R130: `x[c] <- x[a] & x[b]`. -/
def execBanr (a b c : Field) (s : State) : Host.Outcome State Fault Refusal :=
  execute (.reg a) (.reg b) c bitAnd s

/-- R131: `x[c] <- x[a] & zext_64(b)`. -/
def execBani (a b c : Field) (s : State) : Host.Outcome State Fault Refusal :=
  execute (.reg a) (.imm b) c bitAnd s

/-- R132: `x[c] <- x[a] | x[b]`. -/
def execBorr (a b c : Field) (s : State) : Host.Outcome State Fault Refusal :=
  execute (.reg a) (.reg b) c bitOr s

/-- R133: `x[c] <- x[a] | zext_64(b)`. -/
def execBori (a b c : Field) (s : State) : Host.Outcome State Fault Refusal :=
  execute (.reg a) (.imm b) c bitOr s

end Sys2Proof.Machine
end

