-- ==== Sys2Proof/Machine/Flags.lean ====
section
/-!
DEFINITION. The machine has no flags and no condition codes (10_state.md R36): what stands in their place is the word 0 or 1
that a comparison writes to its destination (43_compare.md R156).
-/

namespace Sys2Proof.Machine

/-- `(cond) ? 1 : 0` as a full 64-bit value (00_scope.md section 5, 43_compare.md R156). -/
def conditionWord (cond : Bool) : Word := if cond then 1 else 0

/-- The strict signed order on the exact values; no subtraction, so nothing overflows (R156). -/
def greaterThan (u v : Word) : Word := conditionWord (decide (v.toInt < u.toInt))

/-- Equality of the two signed values (R156). -/
def equalTo (u v : Word) : Word := conditionWord (decide (u.toInt = v.toInt))

end Sys2Proof.Machine
end

