-- ==== Sys2Proof/Machine/Compare.lean ====
section
/-!
DEFINITION. The comparison instructions gtir, gtri, gtrr, eqir, eqri, eqrr (43_compare.md R150 to R156): exactly 0 or 1, by
the signed values.
-/

namespace Sys2Proof.Machine

/-- R150: `x[c] <- (zext_64(a) > x[b]) ? 1 : 0`. -/
def execGtir (a b c : Field) (s : State) : Host.Outcome State Fault Refusal :=
  execute (.imm a) (.reg b) c greaterThan s

/-- R151: `x[c] <- (x[a] > zext_64(b)) ? 1 : 0`. -/
def execGtri (a b c : Field) (s : State) : Host.Outcome State Fault Refusal :=
  execute (.reg a) (.imm b) c greaterThan s

/-- R152: `x[c] <- (x[a] > x[b]) ? 1 : 0`. -/
def execGtrr (a b c : Field) (s : State) : Host.Outcome State Fault Refusal :=
  execute (.reg a) (.reg b) c greaterThan s

/-- R153: `x[c] <- (zext_64(a) == x[b]) ? 1 : 0`. -/
def execEqir (a b c : Field) (s : State) : Host.Outcome State Fault Refusal :=
  execute (.imm a) (.reg b) c equalTo s

/-- R154: `x[c] <- (x[a] == zext_64(b)) ? 1 : 0`. -/
def execEqri (a b c : Field) (s : State) : Host.Outcome State Fault Refusal :=
  execute (.reg a) (.imm b) c equalTo s

/-- R155: `x[c] <- (x[a] == x[b]) ? 1 : 0`. -/
def execEqrr (a b c : Field) (s : State) : Host.Outcome State Fault Refusal :=
  execute (.reg a) (.reg b) c equalTo s

end Sys2Proof.Machine
end

