-- ==== Sys2Proof/Machine/Move.lean ====
section
/-!
DEFINITION. The move instructions setr, seti (42_move.md R140, R141); their field `b` takes no part (30_encoding.md R91).
-/

namespace Sys2Proof.Machine

/-- The copy: the first operand, whatever the second. -/
def first (u _v : Word) : Word := u

/-- R140: `x[c] <- x[a]`. -/
def execSetr (a b c : Field) (s : State) : Host.Outcome State Fault Refusal :=
  execute (.reg a) (.ignored b) c first s

/-- R141: `x[c] <- zext_64(a)`. -/
def execSeti (a b c : Field) (s : State) : Host.Outcome State Fault Refusal :=
  execute (.imm a) (.ignored b) c first s

end Sys2Proof.Machine
end

