-- ==== Sys2Proof/Machine/HostOps.lean ====
section
/-!
DEFINITION. The host interface (10_state.md R42, R43; 70_reset_and_hazards.md R240 to R243): RESET, LOAD, START, the CANCEL
input and the read-out. A move that is not legal in the state it meets is refused by name (93 U11, U16, U17).
-/

namespace Sys2Proof.Machine

/-- RESET: every piece of the CORE's state at its reset value (R240). The input line, the history of events and the host's
coming moves are not the CORE's and stay (log entries 7 to 9). It has no condition on STATUS (log entry 21). -/
def State.hostReset (s : State) : State :=
  { State.reset with cancel := s.cancel, events := s.events, hostScript := s.hostScript }

/-- What a legal LOAD writes (R241). With no bound given MAXSTEPS itself is not written (log entry 20). -/
def State.loadProgram (l : LoadArgs) (s : State) : State :=
  { s with
    ipsel := l.ipsel
    program := l.program
    maxStepsEn := l.maxSteps.isSome
    maxSteps := l.maxSteps.getD s.maxSteps
    progressN := l.progressN.getD 0
    status := .idle
    loaded := true }

/-- LOAD: legal only when STATUS is not RUNNING and the program fits the store; it checks neither the words nor IPSEL
(R241). -/
def hostLoad (l : LoadArgs) (s : State) : Host.Outcome State Fault Refusal :=
  if s.status = .running then .refused .loadWhileRunning
  else if Config.imemDepth < l.program.length then .refused .programTooLong
  else .next (s.loadProgram l)

/-- What START initialises before it checks IPSEL (R243; 10_state.md R41). -/
def State.beginRun (initR : Option RegFile) (initPc : Option Word) (s : State) : State :=
  { s with
    regs := initR.getD RegFile.zero
    pc := initPc.getD 0
    steps := 0
    unkF := false
    unkCnt := 0 }

/-- STATUS <- RUNNING: the engine runs cycles from its next turn on (R243). -/
def State.setRunning (s : State) : State := { s with status := .running }

/-- START: legal only after a LOAD and when STATUS is not RUNNING; a binding above 5 takes the exception
RegisterIndexOutOfRange with FAULTFLD = 3 and no cycle runs (R243; 60_exceptions.md R207 cause (b); log entry 12). -/
def hostStart (initR : Option RegFile) (initPc : Option Word) (s : State) : Host.Outcome State Fault Refusal :=
  if s.status = .running then .refused .startWhileRunning
  else if s.loaded = false then .refused .startBeforeLoad
  else
    match ipIndex? s.ipsel with
    | none => .next ((s.beginRun initR initPc).takeIndexFault .ipsel (s.ipsel.setWidth 32))
    | some _ => .next (s.beginRun initR initPc).setRunning

/-- The host drives the input line CANCEL; the CORE never clears it (10_state.md R35, 60_exceptions.md R210). -/
def State.setCancel (level : Bool) (s : State) : State := { s with cancel := level }

/-- FAULTPC, FAULTIDX and FAULTFLD (10_state.md R33). -/
structure FaultRecord where
  pc : Word
  idx : Field
  fld : FieldId
  deriving DecidableEq, Repr

/-- UNKCNT, UNKPC and UNKOP of a run in which UNKF is set (10_state.md R34). -/
structure UnknownRecord where
  count : Word
  pc : Word
  opcode : Field
  deriving DecidableEq, Repr

/-- What the host reads when the run has stopped (10_state.md R42). -/
structure ReadOut where
  regs : RegFile
  steps : Word
  pc : Word
  status : Status
  fault : Option FaultRecord
  unknown : Option UnknownRecord
  deriving DecidableEq, Repr

/-- The read-out: none before the run has stopped (R42); the fault record only in FAULT_REGIDX (R33) and the warning record
only while UNKF = 1 (R34), the states in which they are valid (log entry 22). -/
def State.readOut (s : State) : Option ReadOut :=
  if s.status.stopped then
    some
      { regs := s.regs
        steps := s.steps
        pc := s.pc
        status := s.status
        fault := if s.status = .faultRegIdx then some ⟨s.faultPc, s.faultIdx, s.faultFld⟩ else none
        unknown := if s.unkF then some ⟨s.unkCnt, s.unkPc, s.unkOp⟩ else none }
  else none

end Sys2Proof.Machine
end

