-- ==== Sys2Proof/Machine/Cycle.lean ====
section
/-!
DEFINITION. The cycle of 45_cycle_and_control_flow.md R171 in its twelve phases, and whose turn it is: the engine's or the
host's.
-/

namespace Sys2Proof.Machine

/-- Phases 6 to 12 for a decoded word: an unknown opcode warns and goes on with phase 10 (R177, 60_exceptions.md R206); an
instruction is executed, and the step ends with the latch, the count and the progress event unless the instruction stopped
the run (R178 to R183). -/
def runDecoded (ip : RegIdx) (d : Decoded) (s : State) : Host.Outcome State Fault Refusal :=
  match d with
  | .unknownOpcode op => .next ((s.warnUnknown op).finishStep ip)
  | .instr i =>
    match exec i s with
    | .next t => if t.status = .running then .next (t.finishStep ip) else .next t
    | .fault r => .fault r
    | .refused r => .refused r

/-- One cycle: phase 1, the mirror write, then the stopping tests of phases 2 to 4, then fetch, decode and the rest (R171 to
R177). -/
def cycle (s : State) : Host.Outcome State Fault Refusal :=
  match ipIndex? s.ipsel with
  | none => .fault .noInstructionPointerRegister
  | some ip =>
    let m := s.writeReg ip s.pc
    match m.stopTest with
    | some st => .next (m.stop st)
    | none =>
      match m.fetch with
      | none => .fault .fetchOutsideProgram
      | some w => runDecoded ip (decode w) m

/-- The engine's turn: a cycle while STATUS = RUNNING (R170); otherwise nothing changes until the host moves (10_state.md
R32, 70_reset_and_hazards.md R240; log entry 11). -/
def engineTurn (s : State) : Host.Outcome State Fault Refusal :=
  if s.status = .running then cycle s else .next s

/-- The host's move, or the engine's turn where the host waits (10_state.md R43). -/
def hostTurn (m : HostMove) (s : State) : Host.Outcome State Fault Refusal :=
  match m with
  | .wait => engineTurn s
  | .reset => .next s.hostReset
  | .load l => hostLoad l s
  | .start r p => hostStart r p s
  | .setCancel level => .next (s.setCancel level)

/-- The move is taken off the script. -/
def State.afterMove (rest : List HostMove) (s : State) : State := { s with hostScript := rest }

/-- Whose turn it is: the host's while its script has a move, else the engine's (log entry 8). -/
def takeTurn (s : State) : Host.Outcome State Fault Refusal :=
  match s.hostScript with
  | [] => engineTurn s
  | m :: rest => hostTurn m (s.afterMove rest)

end Sys2Proof.Machine
end

