-- ==== Sys2Proof/Machine/Step.lean ====
section
/-!
DEFINITION. One step of the machine, and the state whose next step runs a given instruction word.
-/

namespace Sys2Proof.Machine

/-- One step: a cycle of the engine (45_cycle_and_control_flow.md R171) or one move of the host (10_state.md R43). -/
def step (s : State) : Host.Outcome State Fault Refusal := takeTurn s

/-- `s` with the table word placed so that the next step fetches and runs it: what the host's LOAD and START bring about
(log entry 19). -/
def State.withFetchWord (s : State) (nbits w : Nat) : State := s.placeForFetch (tableWord nbits w)

end Sys2Proof.Machine
end

