-- ==== Sys2Proof/Machine/Assembler.lean ====
section
/-!
DEFINITION. The assembly syntax of 30_encoding.md R96 to R101, from tokens to what LOAD is given. It belongs to the
excluded parsing collaborator, not to the CORE (00_scope.md R5), and nothing in the machine uses it. Splitting text into
lines and numerals is left out: the source states no lexical rule (91 N9; log entry 18).
-/

namespace Sys2Proof

/-- A line of program text after its tokens are read (R96, R97). -/
inductive AsmLine where
  /-- `#ip <register-index>` (R96). -/
  | ip (n : Nat)
  /-- `<opcode-name> <a> <b> <c>` (R97). -/
  | instr (mnemonic : String) (a b c : Nat)
  deriving DecidableEq, Repr

/-- The mnemonic of an instruction (R84, R98). -/
def Instr.mnemonic : Instr → String
  | .addr .. => "addr"
  | .addi .. => "addi"
  | .mulr .. => "mulr"
  | .muli .. => "muli"
  | .banr .. => "banr"
  | .bani .. => "bani"
  | .borr .. => "borr"
  | .bori .. => "bori"
  | .setr .. => "setr"
  | .seti .. => "seti"
  | .gtir .. => "gtir"
  | .gtri .. => "gtri"
  | .gtrr .. => "gtrr"
  | .eqir .. => "eqir"
  | .eqri .. => "eqri"
  | .eqrr .. => "eqrr"

/-- The instruction of a mnemonic and three operand fields; an unknown mnemonic is rejected (R98, R100). -/
def instrNamed (mnemonic : String) (a b c : Field) : Option Instr :=
  match mnemonic with
  | "addr" => some (.addr a b c)
  | "addi" => some (.addi a b c)
  | "mulr" => some (.mulr a b c)
  | "muli" => some (.muli a b c)
  | "banr" => some (.banr a b c)
  | "bani" => some (.bani a b c)
  | "borr" => some (.borr a b c)
  | "bori" => some (.bori a b c)
  | "setr" => some (.setr a b c)
  | "seti" => some (.seti a b c)
  | "gtir" => some (.gtir a b c)
  | "gtri" => some (.gtri a b c)
  | "gtrr" => some (.gtrr a b c)
  | "eqir" => some (.eqir a b c)
  | "eqri" => some (.eqri a b c)
  | "eqrr" => some (.eqrr a b c)
  | _ => none

/-- A numeral as a `u32`; one above 4294967295 does not fit and is rejected (R101; log entry 18). -/
def numeral? (n : Nat) : Option Field := if n < 2 ^ 32 then some (BitVec.ofNat 32 n) else none

/-- One instruction line as an instruction word; register indices are not checked (R101). -/
def assembleLine : AsmLine → Option InstrWord
  | .ip _ => none
  | .instr m a b c => do
    let fa ← numeral? a
    let fb ← numeral? b
    let fc ← numeral? c
    let i ← instrNamed m fa fb fc
    pure (encode i)

/-- A program text: first the `#ip` line, then the instructions at indices 0, 1, 2, ... (R96, R97). The binding is any
3-bit value; START checks it (10_state.md R27). -/
def assemble : List AsmLine → Option (IpSel × List InstrWord)
  | .ip n :: rest => if n < 8 then (rest.mapM assembleLine).map fun ws => (BitVec.ofNat 3 n, ws) else none
  | _ => none

end Sys2Proof
end

