-- ==== Sys2Proof/WellFormed.lean ====
section
/-!
DEFINITION. Which instructions have legal operands (30_encoding.md R85, R88, R90, R95): every field the opcode uses as a
register index is in 0..5. An instruction that is not well-formed is still an instruction: executing it takes the
exception RegisterIndexOutOfRange (60_exceptions.md R207).
-/

namespace Sys2Proof

/-- The fields an instruction uses as register indices, with their names, in the order in which they are checked: `a` if in
register mode, `b` if in register mode, `c` (R85, R92). -/
def Instr.indexFields : Instr → List (FieldId × Field)
  | .addr a b c | .mulr a b c | .banr a b c | .borr a b c | .gtrr a b c | .eqrr a b c => [(.a, a), (.b, b), (.c, c)]
  | .addi a _ c | .muli a _ c | .bani a _ c | .bori a _ c | .gtri a _ c | .eqri a _ c => [(.a, a), (.c, c)]
  | .gtir _ b c | .eqir _ b c => [(.b, b), (.c, c)]
  | .setr a _ c => [(.a, a), (.c, c)]
  | .seti _ _ c => [(.c, c)]

/-- The index is that of one of the six registers, 0..5 (R90); the field is compared as a full 32-bit number. -/
abbrev IsReg (f : Field) : Prop := f.toNat ≤ 5

/-- Every register index of the instruction is legal (R95). -/
def Instr.wellFormed (i : Instr) : Bool := i.indexFields.all fun p => decide (IsReg p.2)

/-- The first field, in the order of the checks, whose index is out of range, if there is one (R92). -/
def Instr.firstBadIndex (i : Instr) : Option (FieldId × Field) := i.indexFields.find? fun p => decide (¬IsReg p.2)

end Sys2Proof
end

