-- ==== Sys2Proof/Safety.lean ====
section
/-!
DEFINITION. The terms in which claims are stated: reading and writing a register by its field, the conditions under which
the engine runs a cycle, the effect of a cycle's ends written out from the spec, the invariant of all runs, and what it
means for two runs to agree.
-/

namespace Sys2Proof.Machine

/-- `x[f]`, for a field `f` that is a register index (`IsReg f`). -/
def State.x (s : State) (f : Field) : Word := s.regs[f.toNat]?.getD 0

/-- `x[f] <- v` and nothing else, for a field `f` that is a register index. -/
def State.withX (s : State) (f : Field) (v : Word) : State := { s with regs := s.regs.setIfInBounds f.toNat v }

/-- `IPSEL` as a register field. -/
def State.ipField (s : State) : Field := s.ipsel.setWidth 32

/-- The state after phase 1: `x[IPSEL] <- pc` (45_cycle_and_control_flow.md R172). -/
def State.mirrored (s : State) : State := s.withX s.ipField s.pc

/-- The fault record and the status that RegisterIndexOutOfRange leaves, and nothing else (60_exceptions.md R207). -/
def State.indexFault (s : State) (fld : FieldId) (idx : Field) : State :=
  { s with status := .faultRegIdx, faultPc := s.pc, faultIdx := idx, faultFld := fld }

/-- The warning record and event that UnknownOpcode leaves, and nothing else (60_exceptions.md R206). -/
def State.unknownWarned (s : State) (opcode : Field) : State :=
  { s with unkF := true, unkCnt := s.unkCnt + 1, unkPc := s.pc, unkOp := opcode,
           events := s.events ++ [.warn s.pc opcode] }

/-- The end of a step: `pc <- wrap64(x[IPSEL] + 1)`, `STEPS <- STEPS + 1`, and the progress event with the new count, the
registers and the new `pc` where the count is a multiple of a nonzero `PROGRESS_N` (R181 to R183). -/
def State.stepEnded (t : State) : State :=
  { t with
    pc := wrap64 ((t.x t.ipField).toInt + 1)
    steps := t.steps + 1
    events := t.events ++
      if 0 < t.progressN.toNat ∧ (t.steps + 1).toNat % t.progressN.toNat = 0 then
        [.progress (t.steps + 1) t.regs (wrap64 ((t.x t.ipField).toInt + 1))]
      else [] }

/-- `0 <= pc < LEN`, the signed `pc` (R173). -/
abbrev PcInside (s : State) : Prop := 0 ≤ s.pc.toInt ∧ s.pc.toInt < s.program.length

/-- The step bound is reached: `(MAXSTEPS_EN = 1 and STEPS >= MAXSTEPS) or STEPS = 2^64 - 1` (R175). -/
abbrev BoundReached (s : State) : Prop :=
  (s.maxStepsEn = true ∧ s.maxSteps.toNat ≤ s.steps.toNat) ∨ s.steps.toNat = 2 ^ 64 - 1

/-- The engine's next step is a cycle: the run is on, the host makes no move, and the binding is legal, as it is in every
run (10_state.md R27). A cycle with later moves of the host pending, behind a wait, is the same cycle
(Obligations.HostWaitCancelLineAndRefusals). -/
abbrev EngineRuns (s : State) : Prop := s.status = .running ∧ s.hostScript = [] ∧ s.ipsel.toNat ≤ 5

/-- The cycle passes phases 2 to 4 and fetches (R173 to R176). -/
abbrev Steppable (s : State) : Prop := EngineRuns s ∧ PcInside s ∧ s.cancel = false ∧ ¬BoundReached s

/-- What holds of every state a run can reach. -/
structure Inv (s : State) : Prop where
  /-- The program fits the store (00_scope.md R9). -/
  store : Memory.wf s.program = true
  /-- A run has a legal binding and a loaded program (10_state.md R27, 70_reset_and_hazards.md R243). -/
  binding : s.status = .running → s.ipsel.toNat ≤ 5 ∧ s.loaded = true
  /-- In every stop state but that of the binding's own fault, `x[IPSEL] = pc` (10_state.md R42). -/
  mirror : s.status.stopped = true → ¬(s.status = .faultRegIdx ∧ s.faultFld = .ipsel) →
    s.ipsel.toNat ≤ 5 ∧ s.x s.ipField = s.pc
  /-- HALTED means `pc` is outside the program (60_exceptions.md R203). -/
  halted : s.status = .halted → ¬PcInside s
  /-- A fault names the stopped `pc` and an index that is out of range (60_exceptions.md R207). -/
  fault : s.status = .faultRegIdx → s.faultPc = s.pc ∧ 5 < s.faultIdx.toNat
  /-- A run never exceeds its bound (10_state.md R30). -/
  bound : s.status ≠ .idle → s.maxStepsEn = true → s.steps.toNat ≤ s.maxSteps.toNat
  /-- STEP_BOUND means STEPS equals the bound, or the counter's own limit (60_exceptions.md R209). -/
  stepBound : s.status = .stepBound →
    (s.maxStepsEn = true ∧ s.steps = s.maxSteps) ∨ s.steps.toNat = 2 ^ 64 - 1
  /-- `UNKCNT` cannot exceed `STEPS` (10_state.md R34). -/
  unknownCount : s.unkCnt.toNat ≤ s.steps.toNat
  /-- `UNKF` is set exactly when an unknown opcode was executed in this run (10_state.md R34). -/
  unknownFlag : s.unkF = true ↔ s.unkCnt ≠ 0

/-- The warn events of a history, in their order (60_exceptions.md R221). -/
def warnings (l : List Event) : List Event :=
  l.filter fun
    | .warn _ _ => true
    | .progress _ _ _ => false

/-- Two steps or runs end alike: in related next states, in the same fault or in the same refusal. -/
def OutcomesAgree (R : State → State → Prop) : Host.Outcome State Fault Refusal → Host.Outcome State Fault Refusal → Prop
  | .next s, .next t => R s t
  | .fault r, .fault q => r = q
  | .refused r, .refused q => r = q
  | _, _ => False

/-- The two states were given the same program and parameters by the host, and the same input level. -/
structure SameLoad (s t : State) : Prop where
  ipsel : s.ipsel = t.ipsel
  program : s.program = t.program
  maxStepsEn : s.maxStepsEn = t.maxStepsEn
  maxSteps : s.maxSteps = t.maxSteps
  progressN : s.progressN = t.progressN
  loaded : s.loaded = t.loaded
  cancel : s.cancel = t.cancel

/-- The two states agree on everything a run or its host can see but the history of events: the fault record only where it
is valid (10_state.md R33), UNKPC and UNKOP likewise (R34). -/
structure SameRun (s t : State) : Prop extends SameLoad s t where
  regs : s.regs = t.regs
  pc : s.pc = t.pc
  steps : s.steps = t.steps
  status : s.status = t.status
  fault : s.status = .faultRegIdx → s.faultPc = t.faultPc ∧ s.faultIdx = t.faultIdx ∧ s.faultFld = t.faultFld
  unkF : s.unkF = t.unkF
  unkCnt : s.unkCnt = t.unkCnt
  unknown : s.unkF = true → s.unkPc = t.unkPc ∧ s.unkOp = t.unkOp
  hostScript : s.hostScript = t.hostScript

/-- The two states are at the same point of one computation, the second having counted `n` fewer steps
(45_cycle_and_control_flow.md R196). -/
structure ResumedAt (n : Word) (s t : State) : Prop where
  regs : s.regs = t.regs
  pc : s.pc = t.pc
  status : s.status = t.status
  ipsel : s.ipsel = t.ipsel
  program : s.program = t.program
  steps : s.steps = n + t.steps
  fault : s.status = .faultRegIdx → s.faultPc = t.faultPc ∧ s.faultIdx = t.faultIdx ∧ s.faultFld = t.faultFld

end Sys2Proof.Machine
end

