-- ==== Sys2Proof/Certificates/Slice0/Obligations.lean ====
section
/-!
DEFINITION. The statements for the provers, from the numbered rules of spec/. Registers are read with `State.x`, a next
state is written out from the state before it, and the terms used are those of Sys2Proof/Safety.lean.
-/

open Sys2Proof Sys2Proof.Machine

/-- No bit of an encoding is dropped: the layout of R81 and the numbers of R84 are read back as they were written. -/
def Obligations.EncodedInstructionDecodesToItself : Prop :=
  ∀ i : Instr, decode (encode i) = .instr i

/-- The classification that R95 derives: the decoder is total. -/
def Obligations.EveryWordIsClassified : Prop :=
  ∀ (w : InstrWord) (s : State),
    ((w.extractLsb' 96 32).toNat ≤ 15 →
      ∃ i, decode w = .instr i ∧ encode i = w ∧
        (i.wellFormed = true → ∃ t, exec i s = .next t ∧ t.status = s.status) ∧
        (i.wellFormed = false → ∃ t, exec i s = .next t ∧ t.status = .faultRegIdx)) ∧
    (15 < (w.extractLsb' 96 32).toNat → decode w = .unknownOpcode (w.extractLsb' 96 32))

/-- A sanity check on words the spec prints. -/
def Obligations.SpecWordsDecode : Prop :=
  decode 0x00000001_00000001_00000007_00000002#128 = .instr (.addi 1 7 2) ∧
  decode 0x00000007_00000000_FFFFFFFF_00000001#128 = .instr (.bori 0 4294967295 1) ∧
  decode 0x00000008_00000000_00000063_00000001#128 = .instr (.setr 0 99 1) ∧
  decode 0x0000000E_00000000_00000006_00000007#128 = .instr (.eqri 0 6 7) ∧
  decode 0x00000010_00000009_00000009_00000009#128 = .unknownOpcode 16 ∧
  decode 0xFFFFFFFF_00000000_00000000_00000000#128 = .unknownOpcode 4294967295

/-- R101: the mnemonic gives the number of R84, written out here row by row, the numerals give the fields, and no index is
checked. -/
def Obligations.AssembledLineIsTheEncodedInstruction : Prop :=
  ∀ (mnemonic : String) (opcode : Field) (a b c : Nat),
    (mnemonic, opcode) ∈
      [("addr", 0x00000000#32), ("addi", 0x00000001#32), ("mulr", 0x00000002#32), ("muli", 0x00000003#32),
        ("banr", 0x00000004#32), ("bani", 0x00000005#32), ("borr", 0x00000006#32), ("bori", 0x00000007#32),
        ("setr", 0x00000008#32), ("seti", 0x00000009#32), ("gtir", 0x0000000A#32), ("gtri", 0x0000000B#32),
        ("gtrr", 0x0000000C#32), ("eqir", 0x0000000D#32), ("eqri", 0x0000000E#32), ("eqrr", 0x0000000F#32)] →
    a < 2 ^ 32 → b < 2 ^ 32 → c < 2 ^ 32 →
    assembleLine (.instr mnemonic a b c) =
      some (opcode ++ BitVec.ofNat 32 a ++ BitVec.ofNat 32 b ++ BitVec.ofNat 32 c)

/-- R120, class RR: encoding, result, frame and exceptions. -/
def Obligations.AddrWritesWrappedSum : Prop :=
  ∀ (s : State) (a b c : Field),
    decode (0x00000000#32 ++ a ++ b ++ c) = .instr (.addr a b c) ∧
    (IsReg a → IsReg b → IsReg c → exec (.addr a b c) s = .next (s.withX c (wrap64 ((s.x a).toInt + (s.x b).toInt)))) ∧
    (¬IsReg a → exec (.addr a b c) s = .next (s.indexFault .a a)) ∧
    (IsReg a → ¬IsReg b → exec (.addr a b c) s = .next (s.indexFault .b b)) ∧
    (IsReg a → IsReg b → ¬IsReg c → exec (.addr a b c) s = .next (s.indexFault .c c))

/-- R121, class RI: encoding, result, frame and exceptions. -/
def Obligations.AddiWritesWrappedSum : Prop :=
  ∀ (s : State) (a b c : Field),
    decode (0x00000001#32 ++ a ++ b ++ c) = .instr (.addi a b c) ∧
    (IsReg a → IsReg c → exec (.addi a b c) s = .next (s.withX c (wrap64 ((s.x a).toInt + (b.toNat : Int))))) ∧
    (¬IsReg a → exec (.addi a b c) s = .next (s.indexFault .a a)) ∧
    (IsReg a → ¬IsReg c → exec (.addi a b c) s = .next (s.indexFault .c c))

/-- R122, class RR: encoding, result, frame and exceptions. -/
def Obligations.MulrWritesWrappedProduct : Prop :=
  ∀ (s : State) (a b c : Field),
    decode (0x00000002#32 ++ a ++ b ++ c) = .instr (.mulr a b c) ∧
    (IsReg a → IsReg b → IsReg c → exec (.mulr a b c) s = .next (s.withX c (wrap64 ((s.x a).toInt * (s.x b).toInt)))) ∧
    (¬IsReg a → exec (.mulr a b c) s = .next (s.indexFault .a a)) ∧
    (IsReg a → ¬IsReg b → exec (.mulr a b c) s = .next (s.indexFault .b b)) ∧
    (IsReg a → IsReg b → ¬IsReg c → exec (.mulr a b c) s = .next (s.indexFault .c c))

/-- R123, class RI: encoding, result, frame and exceptions. -/
def Obligations.MuliWritesWrappedProduct : Prop :=
  ∀ (s : State) (a b c : Field),
    decode (0x00000003#32 ++ a ++ b ++ c) = .instr (.muli a b c) ∧
    (IsReg a → IsReg c → exec (.muli a b c) s = .next (s.withX c (wrap64 ((s.x a).toInt * (b.toNat : Int))))) ∧
    (¬IsReg a → exec (.muli a b c) s = .next (s.indexFault .a a)) ∧
    (IsReg a → ¬IsReg c → exec (.muli a b c) s = .next (s.indexFault .c c))

/-- R130, class RR: encoding, result, frame and exceptions. -/
def Obligations.BanrWritesBitwiseAnd : Prop :=
  ∀ (s : State) (a b c : Field),
    decode (0x00000004#32 ++ a ++ b ++ c) = .instr (.banr a b c) ∧
    (IsReg a → IsReg b → IsReg c → exec (.banr a b c) s = .next (s.withX c (s.x a &&& s.x b))) ∧
    (¬IsReg a → exec (.banr a b c) s = .next (s.indexFault .a a)) ∧
    (IsReg a → ¬IsReg b → exec (.banr a b c) s = .next (s.indexFault .b b)) ∧
    (IsReg a → IsReg b → ¬IsReg c → exec (.banr a b c) s = .next (s.indexFault .c c))

/-- R131, class RI: encoding, result, frame and exceptions. -/
def Obligations.BaniWritesBitwiseAnd : Prop :=
  ∀ (s : State) (a b c : Field),
    decode (0x00000005#32 ++ a ++ b ++ c) = .instr (.bani a b c) ∧
    (IsReg a → IsReg c → exec (.bani a b c) s = .next (s.withX c (s.x a &&& b.setWidth 64))) ∧
    (¬IsReg a → exec (.bani a b c) s = .next (s.indexFault .a a)) ∧
    (IsReg a → ¬IsReg c → exec (.bani a b c) s = .next (s.indexFault .c c))

/-- R132, class RR: encoding, result, frame and exceptions. -/
def Obligations.BorrWritesBitwiseOr : Prop :=
  ∀ (s : State) (a b c : Field),
    decode (0x00000006#32 ++ a ++ b ++ c) = .instr (.borr a b c) ∧
    (IsReg a → IsReg b → IsReg c → exec (.borr a b c) s = .next (s.withX c (s.x a ||| s.x b))) ∧
    (¬IsReg a → exec (.borr a b c) s = .next (s.indexFault .a a)) ∧
    (IsReg a → ¬IsReg b → exec (.borr a b c) s = .next (s.indexFault .b b)) ∧
    (IsReg a → IsReg b → ¬IsReg c → exec (.borr a b c) s = .next (s.indexFault .c c))

/-- R133, class RI: encoding, result, frame and exceptions. -/
def Obligations.BoriWritesBitwiseOr : Prop :=
  ∀ (s : State) (a b c : Field),
    decode (0x00000007#32 ++ a ++ b ++ c) = .instr (.bori a b c) ∧
    (IsReg a → IsReg c → exec (.bori a b c) s = .next (s.withX c (s.x a ||| b.setWidth 64))) ∧
    (¬IsReg a → exec (.bori a b c) s = .next (s.indexFault .a a)) ∧
    (IsReg a → ¬IsReg c → exec (.bori a b c) s = .next (s.indexFault .c c))

/-- R140, class RX: encoding, result, frame and exceptions. -/
def Obligations.SetrCopiesRegister : Prop :=
  ∀ (s : State) (a b c : Field),
    decode (0x00000008#32 ++ a ++ b ++ c) = .instr (.setr a b c) ∧
    (IsReg a → IsReg c → exec (.setr a b c) s = .next (s.withX c (s.x a))) ∧
    (¬IsReg a → exec (.setr a b c) s = .next (s.indexFault .a a)) ∧
    (IsReg a → ¬IsReg c → exec (.setr a b c) s = .next (s.indexFault .c c))

/-- R141, class IX: encoding, result, frame and exceptions. -/
def Obligations.SetiWritesImmediate : Prop :=
  ∀ (s : State) (a b c : Field),
    decode (0x00000009#32 ++ a ++ b ++ c) = .instr (.seti a b c) ∧
    (IsReg c → exec (.seti a b c) s = .next (s.withX c (BitVec.ofNat 64 a.toNat))) ∧
    (¬IsReg c → exec (.seti a b c) s = .next (s.indexFault .c c))

/-- R150, class IR: encoding, result, frame and exceptions. -/
def Obligations.GtirWritesImmediateGreater : Prop :=
  ∀ (s : State) (a b c : Field),
    decode (0x0000000A#32 ++ a ++ b ++ c) = .instr (.gtir a b c) ∧
    (IsReg b → IsReg c → exec (.gtir a b c) s = .next (s.withX c (if (s.x b).toInt < (a.toNat : Int) then 1 else 0))) ∧
    (¬IsReg b → exec (.gtir a b c) s = .next (s.indexFault .b b)) ∧
    (IsReg b → ¬IsReg c → exec (.gtir a b c) s = .next (s.indexFault .c c))

/-- R151, class RI: encoding, result, frame and exceptions. -/
def Obligations.GtriWritesRegisterGreater : Prop :=
  ∀ (s : State) (a b c : Field),
    decode (0x0000000B#32 ++ a ++ b ++ c) = .instr (.gtri a b c) ∧
    (IsReg a → IsReg c → exec (.gtri a b c) s = .next (s.withX c (if (b.toNat : Int) < (s.x a).toInt then 1 else 0))) ∧
    (¬IsReg a → exec (.gtri a b c) s = .next (s.indexFault .a a)) ∧
    (IsReg a → ¬IsReg c → exec (.gtri a b c) s = .next (s.indexFault .c c))

/-- R152, class RR: encoding, result, frame and exceptions. -/
def Obligations.GtrrWritesSignedGreater : Prop :=
  ∀ (s : State) (a b c : Field),
    decode (0x0000000C#32 ++ a ++ b ++ c) = .instr (.gtrr a b c) ∧
    (IsReg a → IsReg b → IsReg c → exec (.gtrr a b c) s = .next (s.withX c (if (s.x b).toInt < (s.x a).toInt then 1 else 0))) ∧
    (¬IsReg a → exec (.gtrr a b c) s = .next (s.indexFault .a a)) ∧
    (IsReg a → ¬IsReg b → exec (.gtrr a b c) s = .next (s.indexFault .b b)) ∧
    (IsReg a → IsReg b → ¬IsReg c → exec (.gtrr a b c) s = .next (s.indexFault .c c))

/-- R153, class IR: encoding, result, frame and exceptions. -/
def Obligations.EqirWritesImmediateEqual : Prop :=
  ∀ (s : State) (a b c : Field),
    decode (0x0000000D#32 ++ a ++ b ++ c) = .instr (.eqir a b c) ∧
    (IsReg b → IsReg c → exec (.eqir a b c) s = .next (s.withX c (if (a.toNat : Int) = (s.x b).toInt then 1 else 0))) ∧
    (¬IsReg b → exec (.eqir a b c) s = .next (s.indexFault .b b)) ∧
    (IsReg b → ¬IsReg c → exec (.eqir a b c) s = .next (s.indexFault .c c))

/-- R154, class RI: encoding, result, frame and exceptions. -/
def Obligations.EqriWritesRegisterEqual : Prop :=
  ∀ (s : State) (a b c : Field),
    decode (0x0000000E#32 ++ a ++ b ++ c) = .instr (.eqri a b c) ∧
    (IsReg a → IsReg c → exec (.eqri a b c) s = .next (s.withX c (if (s.x a).toInt = (b.toNat : Int) then 1 else 0))) ∧
    (¬IsReg a → exec (.eqri a b c) s = .next (s.indexFault .a a)) ∧
    (IsReg a → ¬IsReg c → exec (.eqri a b c) s = .next (s.indexFault .c c))

/-- R155, class RR: encoding, result, frame and exceptions. -/
def Obligations.EqrrWritesRegistersEqual : Prop :=
  ∀ (s : State) (a b c : Field),
    decode (0x0000000F#32 ++ a ++ b ++ c) = .instr (.eqrr a b c) ∧
    (IsReg a → IsReg b → IsReg c → exec (.eqrr a b c) s = .next (s.withX c (if (s.x a).toInt = (s.x b).toInt then 1 else 0))) ∧
    (¬IsReg a → exec (.eqrr a b c) s = .next (s.indexFault .a a)) ∧
    (IsReg a → ¬IsReg b → exec (.eqrr a b c) s = .next (s.indexFault .b b)) ∧
    (IsReg a → IsReg b → ¬IsReg c → exec (.eqrr a b c) s = .next (s.indexFault .c c))

/-- Completion and frame of all 16 instructions: R180, with R36 and R95. -/
def Obligations.InstructionWritesOnlyItsDestination : Prop :=
  ∀ (i : Instr) (s : State), i.wellFormed = true →
    ∃ v t, exec i s = .next t ∧ t = { s with regs := t.regs } ∧ t.x i.dest = v ∧
      (∀ f, IsReg f → f ≠ i.dest → t.x f = s.x f) ∧ t = s.withX i.dest v

/-- R92, over all 16 instructions. -/
def Obligations.FirstBadIndexIsReported : Prop :=
  ∀ (i : Instr) (s : State) (fld : FieldId) (idx : Field), i.firstBadIndex = some (fld, idx) →
    exec i s = .next { s with status := .faultRegIdx, faultPc := s.pc, faultIdx := idx, faultFld := fld }

/-- R91. -/
def Obligations.IgnoredFieldHasNoEffect : Prop :=
  ∀ (s : State) (a b b' c : Field),
    exec (.setr a b c) s = exec (.setr a b' c) s ∧ exec (.seti a b c) s = exec (.seti a b' c) s ∧
    (IsReg a → IsReg c → (Instr.setr a b c).wellFormed = true) ∧ (IsReg c → (Instr.seti a b c).wellFormed = true)

/-- R89 (D4): zero extension, no scaling, all values legal. -/
def Obligations.ImmediateIsZeroExtended : Prop :=
  ∀ (s : State) (f : Field), ∃ v, (Operand.imm f).value? s = some v ∧
    v.toInt = f.toNat ∧ 0 ≤ v.toInt ∧ v.toInt ≤ 4294967295

/-- R124: wrap-around on two's complement. -/
def Obligations.ArithmeticIsLowBitsOfExactResult : Prop :=
  ∀ (s : State) (a b c : Field), IsReg a → IsReg b → IsReg c →
    (∃ v, exec (.addr a b c) s = .next (s.withX c v) ∧
      v.toNat = ((s.x a).toNat + (s.x b).toNat) % 2 ^ 64 ∧
      v.toInt % 2 ^ 64 = ((s.x a).toInt + (s.x b).toInt) % 2 ^ 64 ∧
      (-2 ^ 63 ≤ (s.x a).toInt + (s.x b).toInt → (s.x a).toInt + (s.x b).toInt < 2 ^ 63 →
        v.toInt = (s.x a).toInt + (s.x b).toInt)) ∧
    (∃ v, exec (.mulr a b c) s = .next (s.withX c v) ∧
      v.toNat = ((s.x a).toNat * (s.x b).toNat) % 2 ^ 64 ∧
      v.toInt % 2 ^ 64 = ((s.x a).toInt * (s.x b).toInt) % 2 ^ 64 ∧
      (-2 ^ 63 ≤ (s.x a).toInt * (s.x b).toInt → (s.x a).toInt * (s.x b).toInt < 2 ^ 63 →
        v.toInt = (s.x a).toInt * (s.x b).toInt))

/-- From R134. -/
def Obligations.BitwiseResultsBitByBit : Prop :=
  ∀ (s : State) (a b c : Field), IsReg a → IsReg c →
    (IsReg b → ∃ v, exec (.banr a b c) s = .next (s.withX c v) ∧
      ∀ i, v.getLsbD i = ((s.x a).getLsbD i && (s.x b).getLsbD i)) ∧
    (IsReg b → ∃ v, exec (.borr a b c) s = .next (s.withX c v) ∧
      ∀ i, v.getLsbD i = ((s.x a).getLsbD i || (s.x b).getLsbD i)) ∧
    (∃ v, exec (.bani a b c) s = .next (s.withX c v) ∧ 0 ≤ v.toInt ∧ v.toInt ≤ 4294967295 ∧
      ∀ i, v.getLsbD i = ((s.x a).getLsbD i && b.getLsbD i)) ∧
    (∃ v, exec (.bori a b c) s = .next (s.withX c v) ∧
      (∀ i, v.getLsbD i = ((s.x a).getLsbD i || b.getLsbD i)) ∧ ∀ i, 32 ≤ i → v.getLsbD i = (s.x a).getLsbD i)

/-- The first sentences of R156; the orders themselves are stated with each instruction. -/
def Obligations.ComparisonWritesZeroOrOne : Prop :=
  ∀ (s : State) (a b c : Field) (i : Instr),
    i = .gtir a b c ∨ i = .gtri a b c ∨ i = .gtrr a b c ∨ i = .eqir a b c ∨ i = .eqri a b c ∨ i = .eqrr a b c →
    i.wellFormed = true → ∃ v : Word, exec i s = .next (s.withX c v) ∧ (v = 0 ∨ v = 1)

/-- Phases 1 and 5 to 12 of R171 around exec. -/
def Obligations.StepRunsTheDecodedInstruction : Prop :=
  ∀ (s : State) (w : InstrWord) (i : Instr), Steppable s → s.program[s.pc.toNat]? = some w → decode w = .instr i →
    step s =
      match exec i s.mirrored with
      | .next t => if t.status = .running then .next t.stepEnded else .next t
      | .fault r => .fault r
      | .refused r => .refused r

/-- R178 to R184: a step is atomic and completes. -/
def Obligations.WellFormedStepCompletes : Prop :=
  ∀ (s : State) (w : InstrWord) (i : Instr), Steppable s → s.program[s.pc.toNat]? = some w → decode w = .instr i → i.wellFormed = true →
    ∃ v, exec i s.mirrored = .next (s.mirrored.withX i.dest v) ∧
      step s = .next (s.mirrored.withX i.dest v).stepEnded ∧
      (s.mirrored.withX i.dest v).stepEnded.status = .running

/-- R172. -/
def Obligations.EveryCycleMirrorsPc : Prop :=
  ∀ s t : State, EngineRuns s → step s = .next t →
    (t.x s.ipField = s.pc ∨
      (t.status = .running ∧ ∃ w i, s.program[s.pc.toNat]? = some w ∧ decode w = .instr i ∧ i.dest = s.ipField)) ∧
    ∀ v, step (s.withX s.ipField v) = .next t

/-- R173, R203. -/
def Obligations.LeavingTheProgramHalts : Prop :=
  ∀ s : State, EngineRuns s → ¬PcInside s → step s = .next { s.mirrored with status := .halted }

/-- R174, R208 (the spec's decisions D7, D17). -/
def Obligations.CancelStopsTheRun : Prop :=
  ∀ s : State, EngineRuns s → PcInside s → s.cancel = true →
    step s = .next { s.mirrored with status := .cancelled }

/-- R175 and R209 (the spec's decisions D7, D8, D9). -/
def Obligations.ReachedBoundStopsTheRun : Prop :=
  ∀ s : State, EngineRuns s →
    (PcInside s → s.cancel = false → BoundReached s → step s = .next { s.mirrored with status := .stepBound }) ∧
    (¬BoundReached s → ∀ t, step s = .next t → t.status ≠ .stepBound) ∧
    (¬PcInside s → step s = .next { s.mirrored with status := .halted }) ∧
    (Inv s → ∀ t, step s = .next t → t.status = .stepBound →
      (t.maxStepsEn = true ∧ t.steps = t.maxSteps) ∨ t.steps.toNat = 2 ^ 64 - 1)

/-- R211 (the spec's decisions D7, D11). -/
def Obligations.OneConditionPerCycleInOrder : Prop :=
  (∀ s : State, EngineRuns s →
    (¬PcInside s → ∃ t, step s = .next t ∧ t.status = .halted ∧ t.faultPc = s.faultPc ∧ t.faultIdx = s.faultIdx ∧ t.faultFld = s.faultFld ∧
        t.unkCnt = s.unkCnt) ∧
    (PcInside s → s.cancel = true →
      ∃ t, step s = .next t ∧ t.status = .cancelled ∧ t.faultPc = s.faultPc ∧ t.faultIdx = s.faultIdx ∧ t.faultFld = s.faultFld ∧
        t.unkCnt = s.unkCnt) ∧
    (PcInside s → s.cancel = false → BoundReached s →
      ∃ t, step s = .next t ∧ t.status = .stepBound ∧ t.faultPc = s.faultPc ∧ t.faultIdx = s.faultIdx ∧ t.faultFld = s.faultFld ∧
        t.unkCnt = s.unkCnt) ∧
    (Steppable s → ∀ w, s.program[s.pc.toNat]? = some w →
      (15 < (w.extractLsb' 96 32).toNat →
        ∃ t, step s = .next t ∧ t.status = .running ∧ t.faultPc = s.faultPc ∧ t.faultIdx = s.faultIdx ∧ t.faultFld = s.faultFld ∧
        t.unkCnt = s.unkCnt + 1) ∧
      (∀ i fld idx, decode w = .instr i → i.firstBadIndex = some (fld, idx) →
        ∃ t, step s = .next t ∧ t.status = .faultRegIdx ∧ t.faultFld = fld ∧ t.faultIdx = idx ∧ t.faultPc = s.pc ∧
          t.unkCnt = s.unkCnt))) ∧
  (∀ (s : State) (r : Option RegFile) (p : Option Word) (rest : List HostMove),
    s.hostScript = .start r p :: rest → s.status ≠ .running → s.loaded = true → 5 < s.ipsel.toNat →
    ∃ t, step s = .next t ∧ t.status = .faultRegIdx ∧ t.faultFld = .ipsel)

/-- R206 (the spec's decisions D10, D13). -/
def Obligations.UnknownOpcodeWarnsAndGoesOn : Prop :=
  ∀ (s : State) (w : InstrWord), Steppable s → s.program[s.pc.toNat]? = some w →
    15 < (w.extractLsb' 96 32).toNat →
    step s = .next (s.mirrored.unknownWarned (w.extractLsb' 96 32)).stepEnded ∧
      (s.mirrored.unknownWarned (w.extractLsb' 96 32)).stepEnded.pc = wrap64 (s.pc.toInt + 1) ∧
      (s.mirrored.unknownWarned (w.extractLsb' 96 32)).stepEnded.status = .running

/-- R178. -/
def Obligations.BadIndexStopsTheRunPrecisely : Prop :=
  ∀ (s : State) (w : InstrWord) (i : Instr), Steppable s → s.program[s.pc.toNat]? = some w → decode w = .instr i →
    (∀ fld idx, i.firstBadIndex = some (fld, idx) →
      step s = .next { s.mirrored with status := .faultRegIdx, faultPc := s.pc, faultIdx := idx, faultFld := fld }) ∧
    (i.firstBadIndex = none → ∃ t, exec i s.mirrored = .next t ∧ step s = .next t.stepEnded) ∧
    s.mirrored.x s.ipField = s.pc

/-- R181 (the wrap is the spec's decision D5). -/
def Obligations.StepNotWritingIpGoesToNextIndex : Prop :=
  (∀ (s : State) (w : InstrWord) (i : Instr), Steppable s → s.program[s.pc.toNat]? = some w → decode w = .instr i → i.wellFormed = true →
    ∃ t, step s = .next t ∧ t.pc = wrap64 ((t.x s.ipField).toInt + 1) ∧
      (i.dest ≠ s.ipField → t.x s.ipField = s.pc ∧ t.pc = wrap64 (s.pc.toInt + 1))) ∧
  (∀ (s : State) (w : InstrWord) (op : Field), Steppable s → s.program[s.pc.toNat]? = some w →
    decode w = .unknownOpcode op →
    ∃ t, step s = .next t ∧ t.x s.ipField = s.pc ∧ t.pc = wrap64 (s.pc.toInt + 1))

/-- R185. -/
def Obligations.WritingIpJumpsToWrittenValuePlusOne : Prop :=
  ∀ (s : State) (w : InstrWord) (i : Instr), Steppable s → s.program[s.pc.toNat]? = some w → decode w = .instr i → i.wellFormed = true → i.dest = s.ipField →
    ∃ v t, exec i s.mirrored = .next (s.mirrored.withX s.ipField v) ∧ step s = .next t ∧
      t.pc = wrap64 (v.toInt + 1)

/-- R189, R195, which the spec derives from R172 and R178; one row per form, with the result of its own rule R120 to R155. -/
def Obligations.ReadingIpGivesOwnIndex : Prop :=
  (∀ (s : State) (w : InstrWord) (k b c : Field) (y : Word), Steppable s → s.program[s.pc.toNat]? = some w →
    IsReg b → IsReg c → y = (if b = s.ipField then s.pc else s.x b) → ∀ (i : Instr) (v : Word),
    (i, v) ∈ ([
        (.addr s.ipField b c, wrap64 (s.pc.toInt + y.toInt)), (.addr b s.ipField c, wrap64 (y.toInt + s.pc.toInt)),
        (.mulr s.ipField b c, wrap64 (s.pc.toInt * y.toInt)), (.mulr b s.ipField c, wrap64 (y.toInt * s.pc.toInt)),
        (.banr s.ipField b c, s.pc &&& y), (.banr b s.ipField c, y &&& s.pc),
        (.borr s.ipField b c, s.pc ||| y), (.borr b s.ipField c, y ||| s.pc),
        (.gtrr s.ipField b c, if y.toInt < s.pc.toInt then 1 else 0), (.gtrr b s.ipField c, if s.pc.toInt < y.toInt then 1 else 0),
        (.eqrr s.ipField b c, if s.pc = y then 1 else 0), (.eqrr b s.ipField c, if y = s.pc then 1 else 0),
        (.addi s.ipField k c, wrap64 (s.pc.toInt + k.toNat)),
        (.muli s.ipField k c, wrap64 (s.pc.toInt * k.toNat)),
        (.bani s.ipField k c, s.pc &&& k.setWidth 64),
        (.bori s.ipField k c, s.pc ||| k.setWidth 64),
        (.setr s.ipField k c, s.pc),
        (.gtri s.ipField k c, if (k.toNat : Int) < s.pc.toInt then 1 else 0),
        (.eqri s.ipField k c, if s.pc.toInt = (k.toNat : Int) then 1 else 0),
        (.gtir k s.ipField c, if s.pc.toInt < (k.toNat : Int) then 1 else 0),
        (.eqir k s.ipField c, if (k.toNat : Int) = s.pc.toInt then 1 else 0)] : List (Instr × Word)) →
    decode w = .instr i → step s = .next (s.mirrored.withX c v).stepEnded) ∧
  (∀ (s : State) (v : Word), EngineRuns s → step (s.withX s.ipField v) = step s)

/-- R186 to R188, which the spec derives from R185 and R189. -/
def Obligations.JumpFormsReachTheirTargets : Prop :=
  ∀ (s : State) (w : InstrWord) (r k : Field), Steppable s → s.program[s.pc.toNat]? = some w →
    (decode w = .instr (.seti k r s.ipField) → ∃ t, step s = .next t ∧ t.pc = wrap64 (k.toNat + 1)) ∧
    (IsReg r → r ≠ s.ipField → decode w = .instr (.setr r k s.ipField) →
      ∃ t, step s = .next t ∧ t.pc = wrap64 ((s.x r).toInt + 1)) ∧
    (decode w = .instr (.addi s.ipField k s.ipField) →
      ∃ t, step s = .next t ∧ t.pc = wrap64 (s.pc.toInt + k.toNat + 1)) ∧
    (IsReg r → r ≠ s.ipField → decode w = .instr (.addr s.ipField r s.ipField) →
      ∃ t, step s = .next t ∧ t.pc = wrap64 (s.pc.toInt + (s.x r).toInt + 1)) ∧
    (IsReg r → r ≠ s.ipField → decode w = .instr (.addr r s.ipField s.ipField) →
      (s.x r = 0 → ∃ t, step s = .next t ∧ t.pc = wrap64 (s.pc.toInt + 1)) ∧
      (s.x r = 1 → ∃ t, step s = .next t ∧ t.pc = wrap64 (s.pc.toInt + 2)))

/-- R26, R181 (the spec's decision D5). -/
def Obligations.LatchAtTopOfRangeLeadsToHalt : Prop :=
  ∀ (s : State) (w : InstrWord) (i : Instr) (u : State), Steppable s → s.program[s.pc.toNat]? = some w → decode w = .instr i → i.wellFormed = true →
    exec i s.mirrored = .next u → (u.x s.ipField).toInt = 2 ^ 63 - 1 →
    ∃ t v, step s = .next t ∧ t.pc.toInt = -2 ^ 63 ∧ step t = .next v ∧ v.status = .halted

/-- R182. -/
def Obligations.StepsCountsCompletedSteps : Prop :=
  ∀ s t : State, EngineRuns s → step s = .next t →
    t.steps.toNat = s.steps.toNat + (if t.status = .running then 1 else 0)

/-- R183 (the payload's pc is the spec's decision D16). -/
def Obligations.ProgressEventAtMultiplesOfInterval : Prop :=
  (∀ (s : State) (w : InstrWord) (i : Instr), Steppable s → s.program[s.pc.toNat]? = some w → decode w = .instr i → i.wellFormed = true →
    ∃ t, step s = .next t ∧ t.steps = s.steps + 1 ∧ t.pc = wrap64 ((t.x s.ipField).toInt + 1) ∧
      t.events =
        if 0 < s.progressN.toNat ∧ t.steps.toNat % s.progressN.toNat = 0 then
          s.events ++ [.progress t.steps t.regs t.pc]
        else s.events) ∧
  (∀ (s : State) (w : InstrWord) (op : Field), Steppable s → s.program[s.pc.toNat]? = some w →
    decode w = .unknownOpcode op →
    ∃ t, step s = .next t ∧ t.steps = s.steps + 1 ∧ t.pc = wrap64 (s.pc.toInt + 1) ∧
      t.events =
        if 0 < s.progressN.toNat ∧ t.steps.toNat % s.progressN.toNat = 0 then
          s.events ++ [.warn s.pc op, .progress t.steps t.regs t.pc]
        else s.events ++ [.warn s.pc op])

/-- R23. -/
def Obligations.RegisterFileHasTwoWriters : Prop :=
  (∀ s t : State, EngineRuns s → step s = .next t → ∀ f, IsReg f → t.x f ≠ s.x f →
    (f = s.ipField ∧ t.x f = s.pc) ∨
      (t.status = .running ∧ ∃ w i, s.program[s.pc.toNat]? = some w ∧ decode w = .instr i ∧ f = i.dest)) ∧
  (∀ s t : State, s.status ≠ .running → s.hostScript.head? ≠ some .reset →
    (∀ r p, s.hostScript.head? ≠ some (.start r p)) → step s = .next t → t.regs = s.regs) ∧
  (∀ (s t : State) (l : LoadArgs) (b : Bool) (rest : List HostMove),
    s.hostScript = .load l :: rest ∨ s.hostScript = .setCancel b :: rest → step s = .next t → t.regs = s.regs)

/-- R61 for the program (the spec's decision D24), R27 for IPSEL, R30 for the bound and R31 for the interval, all constant during
the run; RESET is excepted because the model lets it happen while RUNNING (log entry 21). -/
def Obligations.RunKeepsProgramAndParameters : Prop :=
  (∀ s t : State, s.status = .running → s.hostScript.head? ≠ some .reset → step s = .next t →
    t.program = s.program ∧ t.ipsel = s.ipsel ∧ t.maxStepsEn = s.maxStepsEn ∧ t.maxSteps = s.maxSteps ∧
      t.progressN = s.progressN) ∧
  (∀ (s : State) (l : LoadArgs) (rest : List HostMove), s.status = .running → s.hostScript = .load l :: rest →
    ∀ t, step s ≠ .next t)

/-- R221, R222: events are emitted in program order; that they are kept as a history is the model's choice, log entry 9. -/
def Obligations.EventsAreOnlyAppended : Prop :=
  ∀ s t : State, step s = .next t →
    ∃ l, t.events = s.events ++ l ∧
      (l = [] ∨ (∃ p o, l = [.warn p o]) ∨ (∃ n r q, l = [.progress n r q]) ∨
        ∃ p o n r q, l = [.warn p o, .progress n r q])

/-- R40 (registers and pc source-stated, the rest the spec's decision D15). -/
def Obligations.ResetValues : Prop :=
  (∀ f, IsReg f → State.reset.x f = 0) ∧ State.reset.pc = 0 ∧ State.reset.status = .idle ∧ State.reset.steps = 0 ∧
  State.reset.program.length = 0 ∧ State.reset.maxStepsEn = false ∧ State.reset.maxSteps = 0 ∧
  State.reset.progressN = 0 ∧ State.reset.unkF = false ∧ State.reset.unkCnt = 0

/-- R240, with the values of R40; RESET while RUNNING is log entry 21, the script entry 8, the step without a cycle entry 11. -/
def Obligations.ResetMoveGivesResetValues : Prop :=
  (∀ (s : State) (rest : List HostMove), s.hostScript = .reset :: rest →
    ∃ t, step s = .next t ∧ (∀ f, IsReg f → t.x f = 0) ∧ t.pc = 0 ∧ t.status = .idle ∧ t.steps = 0 ∧
      t.program.length = 0 ∧ t.maxStepsEn = false ∧ t.maxSteps = 0 ∧ t.progressN = 0 ∧ t.unkF = false ∧ t.unkCnt = 0 ∧
      t.loaded = false ∧ t.hostScript = rest) ∧
  (∀ s : State, s.status ≠ .running → s.hostScript = [] → step s = .next s)

/-- R32 (the spec's decision D12). -/
def Obligations.StoppedMachineStaysAsItIs : Prop :=
  (Status.idle.code = 0 ∧ Status.running.code = 1 ∧ Status.halted.code = 2 ∧ Status.faultRegIdx.code = 3 ∧
    Status.stepBound.code = 4 ∧ Status.cancelled.code = 5) ∧
  (∀ st : Status, st.code.toNat ≤ 5) ∧
  (∀ (s : State) (k : Nat), 2 ≤ s.status.code.toNat → s.hostScript = [] → core.run k s = .next s)

/-- R241; the move comes from the host's script (log entry 8). -/
def Obligations.LoadWritesProgramAndParameters : Prop :=
  ∀ (s : State) (l : LoadArgs) (rest : List HostMove), s.hostScript = .load l :: rest →
    (s.status = .running → ∀ t, step s ≠ .next t) ∧
    (Config.imemDepth < l.program.length → ∀ t, step s ≠ .next t) ∧
    (s.status ≠ .running → l.program.length ≤ Config.imemDepth →
      ∃ t, step s = .next t ∧ t.ipsel = l.ipsel ∧ t.program = l.program ∧ t.maxStepsEn = l.maxSteps.isSome ∧
        (∀ n, l.maxSteps = some n → t.maxSteps = n) ∧ t.progressN = l.progressN.getD 0 ∧ t.status = .idle ∧
        t = { s with ipsel := t.ipsel, program := t.program, maxStepsEn := t.maxStepsEn, maxSteps := t.maxSteps,
                     progressN := t.progressN, status := t.status, loaded := true, hostScript := rest })

/-- R243 (the spec's decisions D14, D23); the move comes from the host's script (log entry 8). -/
def Obligations.StartInitialisesAndRuns : Prop :=
  ∀ (s : State) (r : Option RegFile) (p : Option Word) (rest : List HostMove), s.hostScript = .start r p :: rest →
    (s.status = .running → ∀ t, step s ≠ .next t) ∧
    (s.loaded = false → ∃ q, step s = .refused q) ∧
    (s.status ≠ .running → s.loaded = true → s.ipsel.toNat ≤ 5 →
      step s = .next { s with regs := r.getD (Vector.replicate 6 0), pc := p.getD 0, steps := 0, unkF := false,
                              unkCnt := 0, status := .running, hostScript := rest }) ∧
    (s.status ≠ .running → s.loaded = true → 5 < s.ipsel.toNat →
      step s = .next { s with regs := r.getD (Vector.replicate 6 0), pc := p.getD 0, steps := 0, unkF := false,
                              unkCnt := 0, status := .faultRegIdx, faultFld := .ipsel,
                              faultIdx := s.ipsel.setWidth 32, faultPc := p.getD 0, hostScript := rest })

/-- R43, R210, 93 U11, U16 and U17; log entries 7, 8 and 15. -/
def Obligations.HostWaitCancelLineAndRefusals : Prop :=
  (∀ (s : State) (rest : List HostMove), s.hostScript = .wait :: rest →
    step s =
      match step { s with hostScript := [] } with
      | .next t => .next { t with hostScript := rest }
      | .fault r => .fault r
      | .refused r => .refused r) ∧
  (∀ (s : State) (b : Bool) (rest : List HostMove), s.hostScript = .setCancel b :: rest →
    step s = .next { s with cancel := b, hostScript := rest }) ∧
  (∀ (s : State) (l : LoadArgs) (rest : List HostMove), s.hostScript = .load l :: rest →
    (s.status = .running → step s = .refused .loadWhileRunning) ∧
    (s.status ≠ .running → Config.imemDepth < l.program.length → step s = .refused .programTooLong)) ∧
  (∀ (s : State) (r : Option RegFile) (p : Option Word) (rest : List HostMove), s.hostScript = .start r p :: rest →
    (s.status = .running → step s = .refused .startWhileRunning) ∧
    (s.status ≠ .running → s.loaded = false → step s = .refused .startBeforeLoad))

/-- R33, R34, R42; log entry 22. -/
def Obligations.ReadOutOfStoppedRun : Prop :=
  ∀ s : State,
    (s.readOut = none ↔ s.status.code.toNat < 2) ∧
    (∀ o, s.readOut = some o → o.regs = s.regs ∧ o.steps = s.steps ∧ o.pc = s.pc ∧ o.status = s.status ∧
      (o.fault = if s.status = .faultRegIdx then some ⟨s.faultPc, s.faultIdx, s.faultFld⟩ else none) ∧
      (o.unknown = if s.unkF then some ⟨s.unkCnt, s.unkPc, s.unkOp⟩ else none))

/-- Log entry 19: it stands for the host's LOAD and START. -/
def Obligations.PlacedWordIsFetchedNext : Prop :=
  ∀ (s : State) (w : Nat), w < 2 ^ 128 →
    Steppable (s.withFetchWord 128 w) ∧
      (s.withFetchWord 128 w).program[(s.withFetchWord 128 w).pc.toNat]? = some (BitVec.ofNat 128 w) ∧
      (s.withFetchWord 128 w).regs = s.regs ∧
      (∀ i, decode (BitVec.ofNat 128 w) = .instr i →
        step (s.withFetchWord 128 w) =
          match exec i (s.withFetchWord 128 w).mirrored with
          | .next t => if t.status = .running then .next t.stepEnded else .next t
          | .fault r => .fault r
          | .refused r => .refused r) ∧
      (∀ op, decode (BitVec.ofNat 128 w) = .unknownOpcode op →
        step (s.withFetchWord 128 w) = .next ((s.withFetchWord 128 w).mirrored.unknownWarned op).stepEnded)

/-- Base case of EveryStepKeepsTheInvariant. -/
def Obligations.InvariantHoldsAtReset : Prop :=
  Inv State.reset

/-- R9, R27, R30, R33, R34, R42, R203, R207, R209 together, from every state, not only those a run reaches. -/
def Obligations.EveryStepKeepsTheInvariant : Prop :=
  ∀ s t : State, Inv s → step s = .next t → Inv t

/-- R63 and R27; log entries 13 and 14. -/
def Obligations.NoStepFaults : Prop :=
  ∀ s : State, Inv s →
    (∀ r, step s ≠ .fault r) ∧ (s.hostScript = [] → ∃ t, step s = .next t)

/-- R193 and R242: the run is a function of what the host gave it; nothing carries over. -/
def Obligations.StartForgetsEarlierRuns : Prop :=
  ∀ (k : Nat) (s t : State) (r : Option RegFile) (p : Option Word) (script : List HostMove),
    SameLoad s t → s.status ≠ .running → t.status ≠ .running →
    OutcomesAgree (fun u v => SameRun u v ∧ u.readOut = v.readOut)
      (core.run (k + 1) { s with hostScript := .start r p :: script })
      (core.run (k + 1) { t with hostScript := .start r p :: script })

/-- The last sentence but one of R193, and R222: an observability hook, not a control dependency. -/
def Obligations.ProgressHookIsNotAControlDependency : Prop :=
  ∀ (k : Nat) (s : State) (n : Word) (e : List Event),
    OutcomesAgree
      (fun u v => v = { u with progressN := v.progressN, events := v.events } ∧
        ∃ l l', u.events = s.events ++ l ∧ v.events = e ++ l' ∧ warnings l = warnings l')
      (core.run k s) (core.run k { s with progressN := n, events := e })

/-- R196, which the spec derives. -/
def Obligations.ResumedRunContinuesTheComputation : Prop :=
  ∀ (k : Nat) (s : State), Inv s → s.status = .cancelled ∨ s.status = .stepBound → s.steps.toNat + k < 2 ^ 64 - 1 →
    OutcomesAgree (ResumedAt s.steps)
      (core.run k { s with status := .running, cancel := false, maxStepsEn := false, hostScript := [] })
      (core.run (3 + k) { s with hostScript :=
        [.setCancel false, .load ⟨s.ipsel, s.program, none, none⟩, .start (some s.regs) (some s.pc)] })
end

