-- ==== Sys2Proof/Laws/Encoding.lean ====
section
/-!
SUPPORT. The fields of a packed word are the fields it was packed from, and a word is packed from its fields.
-/

namespace Sys2Proof

/-- Bit `i` of a packed word, by the field it falls in (30_encoding.md R81). -/
theorem getLsbD_packWord (op a b c : Field) (i : Nat) :
    (packWord op a b c).getLsbD i =
      if i < 32 then c.getLsbD i
      else if i < 64 then b.getLsbD (i - 32)
      else if i < 96 then a.getLsbD (i - 64)
      else op.getLsbD (i - 96) := by
  have h : (packWord op a b c).getLsbD i = (op ++ a ++ b ++ c : BitVec (32 + 32 + 32 + 32)).getLsbD i := rfl
  rw [h]
  simp only [BitVec.getLsbD_append]
  split_ifs <;> first | rfl | omega

theorem wordC_packWord (op a b c : Field) : wordC (packWord op a b c) = c := by
  apply BitVec.eq_of_getLsbD_eq
  intro i hi
  simp [wordC, getLsbD_packWord, hi]

theorem wordB_packWord (op a b c : Field) : wordB (packWord op a b c) = b := by
  apply BitVec.eq_of_getLsbD_eq
  intro i hi
  rw [wordB, BitVec.getLsbD_extractLsb', getLsbD_packWord]
  simp [hi, show 32 + i < 64 by omega]

theorem wordA_packWord (op a b c : Field) : wordA (packWord op a b c) = a := by
  apply BitVec.eq_of_getLsbD_eq
  intro i hi
  rw [wordA, BitVec.getLsbD_extractLsb', getLsbD_packWord]
  simp [hi, show ¬64 + i < 32 by omega, show 64 + i < 96 by omega]

theorem wordOpcode_packWord (op a b c : Field) : wordOpcode (packWord op a b c) = op := by
  apply BitVec.eq_of_getLsbD_eq
  intro i hi
  rw [wordOpcode, BitVec.getLsbD_extractLsb', getLsbD_packWord]
  simp [hi, show ¬96 + i < 32 by omega, show ¬96 + i < 64 by omega]

/-- A word is packed from its own fields: the layout leaves no bit out. -/
theorem packWord_fields (w : InstrWord) : packWord (wordOpcode w) (wordA w) (wordB w) (wordC w) = w := by
  apply BitVec.eq_of_getLsbD_eq
  intro i hi
  rw [getLsbD_packWord]
  simp only [wordOpcode, wordA, wordB, wordC, BitVec.getLsbD_extractLsb']
  split_ifs with h1 h2 h3
  · simp [h1]
  · simp [show i - 32 < 32 by omega, show 32 + (i - 32) = i by omega]
  · simp [show i - 64 < 32 by omega, show 64 + (i - 64) = i by omega]
  · simp [show i - 96 < 32 by omega, show 96 + (i - 96) = i by omega]

end Sys2Proof
end

