-- ==== Sys2Proof/Laws/State.lean ====
section
/-!
SUPPORT. One lemma per field per update of State: what each named operation, and each update the claims are written in,
leaves in each field. All are true by rfl.
-/

namespace Sys2Proof.Machine.State

section writeReg
variable (s : State) (r : RegIdx) (v : Word)
@[simp] theorem writeReg_regs : (s.writeReg r v).regs = s.regs.set r v := rfl
@[simp] theorem writeReg_pc : (s.writeReg r v).pc = s.pc := rfl
@[simp] theorem writeReg_ipsel : (s.writeReg r v).ipsel = s.ipsel := rfl
@[simp] theorem writeReg_program : (s.writeReg r v).program = s.program := rfl
@[simp] theorem writeReg_steps : (s.writeReg r v).steps = s.steps := rfl
@[simp] theorem writeReg_maxStepsEn : (s.writeReg r v).maxStepsEn = s.maxStepsEn := rfl
@[simp] theorem writeReg_maxSteps : (s.writeReg r v).maxSteps = s.maxSteps := rfl
@[simp] theorem writeReg_progressN : (s.writeReg r v).progressN = s.progressN := rfl
@[simp] theorem writeReg_status : (s.writeReg r v).status = s.status := rfl
@[simp] theorem writeReg_faultPc : (s.writeReg r v).faultPc = s.faultPc := rfl
@[simp] theorem writeReg_faultIdx : (s.writeReg r v).faultIdx = s.faultIdx := rfl
@[simp] theorem writeReg_faultFld : (s.writeReg r v).faultFld = s.faultFld := rfl
@[simp] theorem writeReg_unkF : (s.writeReg r v).unkF = s.unkF := rfl
@[simp] theorem writeReg_unkCnt : (s.writeReg r v).unkCnt = s.unkCnt := rfl
@[simp] theorem writeReg_unkPc : (s.writeReg r v).unkPc = s.unkPc := rfl
@[simp] theorem writeReg_unkOp : (s.writeReg r v).unkOp = s.unkOp := rfl
@[simp] theorem writeReg_loaded : (s.writeReg r v).loaded = s.loaded := rfl
@[simp] theorem writeReg_cancel : (s.writeReg r v).cancel = s.cancel := rfl
@[simp] theorem writeReg_events : (s.writeReg r v).events = s.events := rfl
@[simp] theorem writeReg_hostScript : (s.writeReg r v).hostScript = s.hostScript := rfl
end writeReg

section stop
variable (s : State) (st : Status)
@[simp] theorem stop_regs : (s.stop st).regs = s.regs := rfl
@[simp] theorem stop_pc : (s.stop st).pc = s.pc := rfl
@[simp] theorem stop_ipsel : (s.stop st).ipsel = s.ipsel := rfl
@[simp] theorem stop_program : (s.stop st).program = s.program := rfl
@[simp] theorem stop_steps : (s.stop st).steps = s.steps := rfl
@[simp] theorem stop_maxStepsEn : (s.stop st).maxStepsEn = s.maxStepsEn := rfl
@[simp] theorem stop_maxSteps : (s.stop st).maxSteps = s.maxSteps := rfl
@[simp] theorem stop_progressN : (s.stop st).progressN = s.progressN := rfl
@[simp] theorem stop_status : (s.stop st).status = st := rfl
@[simp] theorem stop_faultPc : (s.stop st).faultPc = s.faultPc := rfl
@[simp] theorem stop_faultIdx : (s.stop st).faultIdx = s.faultIdx := rfl
@[simp] theorem stop_faultFld : (s.stop st).faultFld = s.faultFld := rfl
@[simp] theorem stop_unkF : (s.stop st).unkF = s.unkF := rfl
@[simp] theorem stop_unkCnt : (s.stop st).unkCnt = s.unkCnt := rfl
@[simp] theorem stop_unkPc : (s.stop st).unkPc = s.unkPc := rfl
@[simp] theorem stop_unkOp : (s.stop st).unkOp = s.unkOp := rfl
@[simp] theorem stop_loaded : (s.stop st).loaded = s.loaded := rfl
@[simp] theorem stop_cancel : (s.stop st).cancel = s.cancel := rfl
@[simp] theorem stop_events : (s.stop st).events = s.events := rfl
@[simp] theorem stop_hostScript : (s.stop st).hostScript = s.hostScript := rfl
end stop

section takeIndexFault
variable (s : State) (fld : FieldId) (idx : Field)
@[simp] theorem takeIndexFault_regs : (s.takeIndexFault fld idx).regs = s.regs := rfl
@[simp] theorem takeIndexFault_pc : (s.takeIndexFault fld idx).pc = s.pc := rfl
@[simp] theorem takeIndexFault_ipsel : (s.takeIndexFault fld idx).ipsel = s.ipsel := rfl
@[simp] theorem takeIndexFault_program : (s.takeIndexFault fld idx).program = s.program := rfl
@[simp] theorem takeIndexFault_steps : (s.takeIndexFault fld idx).steps = s.steps := rfl
@[simp] theorem takeIndexFault_maxStepsEn : (s.takeIndexFault fld idx).maxStepsEn = s.maxStepsEn := rfl
@[simp] theorem takeIndexFault_maxSteps : (s.takeIndexFault fld idx).maxSteps = s.maxSteps := rfl
@[simp] theorem takeIndexFault_progressN : (s.takeIndexFault fld idx).progressN = s.progressN := rfl
@[simp] theorem takeIndexFault_status : (s.takeIndexFault fld idx).status = .faultRegIdx := rfl
@[simp] theorem takeIndexFault_faultPc : (s.takeIndexFault fld idx).faultPc = s.pc := rfl
@[simp] theorem takeIndexFault_faultIdx : (s.takeIndexFault fld idx).faultIdx = idx := rfl
@[simp] theorem takeIndexFault_faultFld : (s.takeIndexFault fld idx).faultFld = fld := rfl
@[simp] theorem takeIndexFault_unkF : (s.takeIndexFault fld idx).unkF = s.unkF := rfl
@[simp] theorem takeIndexFault_unkCnt : (s.takeIndexFault fld idx).unkCnt = s.unkCnt := rfl
@[simp] theorem takeIndexFault_unkPc : (s.takeIndexFault fld idx).unkPc = s.unkPc := rfl
@[simp] theorem takeIndexFault_unkOp : (s.takeIndexFault fld idx).unkOp = s.unkOp := rfl
@[simp] theorem takeIndexFault_loaded : (s.takeIndexFault fld idx).loaded = s.loaded := rfl
@[simp] theorem takeIndexFault_cancel : (s.takeIndexFault fld idx).cancel = s.cancel := rfl
@[simp] theorem takeIndexFault_events : (s.takeIndexFault fld idx).events = s.events := rfl
@[simp] theorem takeIndexFault_hostScript : (s.takeIndexFault fld idx).hostScript = s.hostScript := rfl
end takeIndexFault

section warnUnknown
variable (s : State) (op : Field)
@[simp] theorem warnUnknown_regs : (s.warnUnknown op).regs = s.regs := rfl
@[simp] theorem warnUnknown_pc : (s.warnUnknown op).pc = s.pc := rfl
@[simp] theorem warnUnknown_ipsel : (s.warnUnknown op).ipsel = s.ipsel := rfl
@[simp] theorem warnUnknown_program : (s.warnUnknown op).program = s.program := rfl
@[simp] theorem warnUnknown_steps : (s.warnUnknown op).steps = s.steps := rfl
@[simp] theorem warnUnknown_maxStepsEn : (s.warnUnknown op).maxStepsEn = s.maxStepsEn := rfl
@[simp] theorem warnUnknown_maxSteps : (s.warnUnknown op).maxSteps = s.maxSteps := rfl
@[simp] theorem warnUnknown_progressN : (s.warnUnknown op).progressN = s.progressN := rfl
@[simp] theorem warnUnknown_status : (s.warnUnknown op).status = s.status := rfl
@[simp] theorem warnUnknown_faultPc : (s.warnUnknown op).faultPc = s.faultPc := rfl
@[simp] theorem warnUnknown_faultIdx : (s.warnUnknown op).faultIdx = s.faultIdx := rfl
@[simp] theorem warnUnknown_faultFld : (s.warnUnknown op).faultFld = s.faultFld := rfl
@[simp] theorem warnUnknown_unkF : (s.warnUnknown op).unkF = true := rfl
@[simp] theorem warnUnknown_unkCnt : (s.warnUnknown op).unkCnt = s.unkCnt + 1 := rfl
@[simp] theorem warnUnknown_unkPc : (s.warnUnknown op).unkPc = s.pc := rfl
@[simp] theorem warnUnknown_unkOp : (s.warnUnknown op).unkOp = op := rfl
@[simp] theorem warnUnknown_loaded : (s.warnUnknown op).loaded = s.loaded := rfl
@[simp] theorem warnUnknown_cancel : (s.warnUnknown op).cancel = s.cancel := rfl
@[simp] theorem warnUnknown_events : (s.warnUnknown op).events = s.events ++ [.warn s.pc op] := rfl
@[simp] theorem warnUnknown_hostScript : (s.warnUnknown op).hostScript = s.hostScript := rfl
end warnUnknown

section latch
variable (s : State) (ip : RegIdx)
@[simp] theorem latch_regs : (s.latch ip).regs = s.regs := rfl
@[simp] theorem latch_pc : (s.latch ip).pc = wrap64 ((s.readReg ip).toInt + 1) := rfl
@[simp] theorem latch_ipsel : (s.latch ip).ipsel = s.ipsel := rfl
@[simp] theorem latch_program : (s.latch ip).program = s.program := rfl
@[simp] theorem latch_steps : (s.latch ip).steps = s.steps := rfl
@[simp] theorem latch_maxStepsEn : (s.latch ip).maxStepsEn = s.maxStepsEn := rfl
@[simp] theorem latch_maxSteps : (s.latch ip).maxSteps = s.maxSteps := rfl
@[simp] theorem latch_progressN : (s.latch ip).progressN = s.progressN := rfl
@[simp] theorem latch_status : (s.latch ip).status = s.status := rfl
@[simp] theorem latch_faultPc : (s.latch ip).faultPc = s.faultPc := rfl
@[simp] theorem latch_faultIdx : (s.latch ip).faultIdx = s.faultIdx := rfl
@[simp] theorem latch_faultFld : (s.latch ip).faultFld = s.faultFld := rfl
@[simp] theorem latch_unkF : (s.latch ip).unkF = s.unkF := rfl
@[simp] theorem latch_unkCnt : (s.latch ip).unkCnt = s.unkCnt := rfl
@[simp] theorem latch_unkPc : (s.latch ip).unkPc = s.unkPc := rfl
@[simp] theorem latch_unkOp : (s.latch ip).unkOp = s.unkOp := rfl
@[simp] theorem latch_loaded : (s.latch ip).loaded = s.loaded := rfl
@[simp] theorem latch_cancel : (s.latch ip).cancel = s.cancel := rfl
@[simp] theorem latch_events : (s.latch ip).events = s.events := rfl
@[simp] theorem latch_hostScript : (s.latch ip).hostScript = s.hostScript := rfl
end latch

section count
variable (s : State)
@[simp] theorem count_regs : (s.count).regs = s.regs := rfl
@[simp] theorem count_pc : (s.count).pc = s.pc := rfl
@[simp] theorem count_ipsel : (s.count).ipsel = s.ipsel := rfl
@[simp] theorem count_program : (s.count).program = s.program := rfl
@[simp] theorem count_steps : (s.count).steps = s.steps + 1 := rfl
@[simp] theorem count_maxStepsEn : (s.count).maxStepsEn = s.maxStepsEn := rfl
@[simp] theorem count_maxSteps : (s.count).maxSteps = s.maxSteps := rfl
@[simp] theorem count_progressN : (s.count).progressN = s.progressN := rfl
@[simp] theorem count_status : (s.count).status = s.status := rfl
@[simp] theorem count_faultPc : (s.count).faultPc = s.faultPc := rfl
@[simp] theorem count_faultIdx : (s.count).faultIdx = s.faultIdx := rfl
@[simp] theorem count_faultFld : (s.count).faultFld = s.faultFld := rfl
@[simp] theorem count_unkF : (s.count).unkF = s.unkF := rfl
@[simp] theorem count_unkCnt : (s.count).unkCnt = s.unkCnt := rfl
@[simp] theorem count_unkPc : (s.count).unkPc = s.unkPc := rfl
@[simp] theorem count_unkOp : (s.count).unkOp = s.unkOp := rfl
@[simp] theorem count_loaded : (s.count).loaded = s.loaded := rfl
@[simp] theorem count_cancel : (s.count).cancel = s.cancel := rfl
@[simp] theorem count_events : (s.count).events = s.events := rfl
@[simp] theorem count_hostScript : (s.count).hostScript = s.hostScript := rfl
end count

section emitProgress
variable (s : State)
@[simp] theorem emitProgress_regs : (s.emitProgress).regs = s.regs := rfl
@[simp] theorem emitProgress_pc : (s.emitProgress).pc = s.pc := rfl
@[simp] theorem emitProgress_ipsel : (s.emitProgress).ipsel = s.ipsel := rfl
@[simp] theorem emitProgress_program : (s.emitProgress).program = s.program := rfl
@[simp] theorem emitProgress_steps : (s.emitProgress).steps = s.steps := rfl
@[simp] theorem emitProgress_maxStepsEn : (s.emitProgress).maxStepsEn = s.maxStepsEn := rfl
@[simp] theorem emitProgress_maxSteps : (s.emitProgress).maxSteps = s.maxSteps := rfl
@[simp] theorem emitProgress_progressN : (s.emitProgress).progressN = s.progressN := rfl
@[simp] theorem emitProgress_status : (s.emitProgress).status = s.status := rfl
@[simp] theorem emitProgress_faultPc : (s.emitProgress).faultPc = s.faultPc := rfl
@[simp] theorem emitProgress_faultIdx : (s.emitProgress).faultIdx = s.faultIdx := rfl
@[simp] theorem emitProgress_faultFld : (s.emitProgress).faultFld = s.faultFld := rfl
@[simp] theorem emitProgress_unkF : (s.emitProgress).unkF = s.unkF := rfl
@[simp] theorem emitProgress_unkCnt : (s.emitProgress).unkCnt = s.unkCnt := rfl
@[simp] theorem emitProgress_unkPc : (s.emitProgress).unkPc = s.unkPc := rfl
@[simp] theorem emitProgress_unkOp : (s.emitProgress).unkOp = s.unkOp := rfl
@[simp] theorem emitProgress_loaded : (s.emitProgress).loaded = s.loaded := rfl
@[simp] theorem emitProgress_cancel : (s.emitProgress).cancel = s.cancel := rfl
@[simp] theorem emitProgress_events : (s.emitProgress).events = s.events ++ s.progressEvents := rfl
@[simp] theorem emitProgress_hostScript : (s.emitProgress).hostScript = s.hostScript := rfl
end emitProgress

section finishStep
variable (s : State) (ip : RegIdx)
@[simp] theorem finishStep_regs : (s.finishStep ip).regs = s.regs := rfl
@[simp] theorem finishStep_pc : (s.finishStep ip).pc = wrap64 ((s.readReg ip).toInt + 1) := rfl
@[simp] theorem finishStep_ipsel : (s.finishStep ip).ipsel = s.ipsel := rfl
@[simp] theorem finishStep_program : (s.finishStep ip).program = s.program := rfl
@[simp] theorem finishStep_steps : (s.finishStep ip).steps = s.steps + 1 := rfl
@[simp] theorem finishStep_maxStepsEn : (s.finishStep ip).maxStepsEn = s.maxStepsEn := rfl
@[simp] theorem finishStep_maxSteps : (s.finishStep ip).maxSteps = s.maxSteps := rfl
@[simp] theorem finishStep_progressN : (s.finishStep ip).progressN = s.progressN := rfl
@[simp] theorem finishStep_status : (s.finishStep ip).status = s.status := rfl
@[simp] theorem finishStep_faultPc : (s.finishStep ip).faultPc = s.faultPc := rfl
@[simp] theorem finishStep_faultIdx : (s.finishStep ip).faultIdx = s.faultIdx := rfl
@[simp] theorem finishStep_faultFld : (s.finishStep ip).faultFld = s.faultFld := rfl
@[simp] theorem finishStep_unkF : (s.finishStep ip).unkF = s.unkF := rfl
@[simp] theorem finishStep_unkCnt : (s.finishStep ip).unkCnt = s.unkCnt := rfl
@[simp] theorem finishStep_unkPc : (s.finishStep ip).unkPc = s.unkPc := rfl
@[simp] theorem finishStep_unkOp : (s.finishStep ip).unkOp = s.unkOp := rfl
@[simp] theorem finishStep_loaded : (s.finishStep ip).loaded = s.loaded := rfl
@[simp] theorem finishStep_cancel : (s.finishStep ip).cancel = s.cancel := rfl
@[simp] theorem finishStep_events : (s.finishStep ip).events = s.events ++ ((s.latch ip).count).progressEvents := rfl
@[simp] theorem finishStep_hostScript : (s.finishStep ip).hostScript = s.hostScript := rfl
end finishStep

section loadProgram
variable (s : State) (l : LoadArgs)
@[simp] theorem loadProgram_regs : (s.loadProgram l).regs = s.regs := rfl
@[simp] theorem loadProgram_pc : (s.loadProgram l).pc = s.pc := rfl
@[simp] theorem loadProgram_ipsel : (s.loadProgram l).ipsel = l.ipsel := rfl
@[simp] theorem loadProgram_program : (s.loadProgram l).program = l.program := rfl
@[simp] theorem loadProgram_steps : (s.loadProgram l).steps = s.steps := rfl
@[simp] theorem loadProgram_maxStepsEn : (s.loadProgram l).maxStepsEn = l.maxSteps.isSome := rfl
@[simp] theorem loadProgram_maxSteps : (s.loadProgram l).maxSteps = l.maxSteps.getD s.maxSteps := rfl
@[simp] theorem loadProgram_progressN : (s.loadProgram l).progressN = l.progressN.getD 0 := rfl
@[simp] theorem loadProgram_status : (s.loadProgram l).status = .idle := rfl
@[simp] theorem loadProgram_faultPc : (s.loadProgram l).faultPc = s.faultPc := rfl
@[simp] theorem loadProgram_faultIdx : (s.loadProgram l).faultIdx = s.faultIdx := rfl
@[simp] theorem loadProgram_faultFld : (s.loadProgram l).faultFld = s.faultFld := rfl
@[simp] theorem loadProgram_unkF : (s.loadProgram l).unkF = s.unkF := rfl
@[simp] theorem loadProgram_unkCnt : (s.loadProgram l).unkCnt = s.unkCnt := rfl
@[simp] theorem loadProgram_unkPc : (s.loadProgram l).unkPc = s.unkPc := rfl
@[simp] theorem loadProgram_unkOp : (s.loadProgram l).unkOp = s.unkOp := rfl
@[simp] theorem loadProgram_loaded : (s.loadProgram l).loaded = true := rfl
@[simp] theorem loadProgram_cancel : (s.loadProgram l).cancel = s.cancel := rfl
@[simp] theorem loadProgram_events : (s.loadProgram l).events = s.events := rfl
@[simp] theorem loadProgram_hostScript : (s.loadProgram l).hostScript = s.hostScript := rfl
end loadProgram

section beginRun
variable (s : State) (r : Option RegFile) (p : Option Word)
@[simp] theorem beginRun_regs : (s.beginRun r p).regs = r.getD RegFile.zero := rfl
@[simp] theorem beginRun_pc : (s.beginRun r p).pc = p.getD 0 := rfl
@[simp] theorem beginRun_ipsel : (s.beginRun r p).ipsel = s.ipsel := rfl
@[simp] theorem beginRun_program : (s.beginRun r p).program = s.program := rfl
@[simp] theorem beginRun_steps : (s.beginRun r p).steps = 0 := rfl
@[simp] theorem beginRun_maxStepsEn : (s.beginRun r p).maxStepsEn = s.maxStepsEn := rfl
@[simp] theorem beginRun_maxSteps : (s.beginRun r p).maxSteps = s.maxSteps := rfl
@[simp] theorem beginRun_progressN : (s.beginRun r p).progressN = s.progressN := rfl
@[simp] theorem beginRun_status : (s.beginRun r p).status = s.status := rfl
@[simp] theorem beginRun_faultPc : (s.beginRun r p).faultPc = s.faultPc := rfl
@[simp] theorem beginRun_faultIdx : (s.beginRun r p).faultIdx = s.faultIdx := rfl
@[simp] theorem beginRun_faultFld : (s.beginRun r p).faultFld = s.faultFld := rfl
@[simp] theorem beginRun_unkF : (s.beginRun r p).unkF = false := rfl
@[simp] theorem beginRun_unkCnt : (s.beginRun r p).unkCnt = 0 := rfl
@[simp] theorem beginRun_unkPc : (s.beginRun r p).unkPc = s.unkPc := rfl
@[simp] theorem beginRun_unkOp : (s.beginRun r p).unkOp = s.unkOp := rfl
@[simp] theorem beginRun_loaded : (s.beginRun r p).loaded = s.loaded := rfl
@[simp] theorem beginRun_cancel : (s.beginRun r p).cancel = s.cancel := rfl
@[simp] theorem beginRun_events : (s.beginRun r p).events = s.events := rfl
@[simp] theorem beginRun_hostScript : (s.beginRun r p).hostScript = s.hostScript := rfl
end beginRun

section setRunning
variable (s : State)
@[simp] theorem setRunning_regs : (s.setRunning).regs = s.regs := rfl
@[simp] theorem setRunning_pc : (s.setRunning).pc = s.pc := rfl
@[simp] theorem setRunning_ipsel : (s.setRunning).ipsel = s.ipsel := rfl
@[simp] theorem setRunning_program : (s.setRunning).program = s.program := rfl
@[simp] theorem setRunning_steps : (s.setRunning).steps = s.steps := rfl
@[simp] theorem setRunning_maxStepsEn : (s.setRunning).maxStepsEn = s.maxStepsEn := rfl
@[simp] theorem setRunning_maxSteps : (s.setRunning).maxSteps = s.maxSteps := rfl
@[simp] theorem setRunning_progressN : (s.setRunning).progressN = s.progressN := rfl
@[simp] theorem setRunning_status : (s.setRunning).status = .running := rfl
@[simp] theorem setRunning_faultPc : (s.setRunning).faultPc = s.faultPc := rfl
@[simp] theorem setRunning_faultIdx : (s.setRunning).faultIdx = s.faultIdx := rfl
@[simp] theorem setRunning_faultFld : (s.setRunning).faultFld = s.faultFld := rfl
@[simp] theorem setRunning_unkF : (s.setRunning).unkF = s.unkF := rfl
@[simp] theorem setRunning_unkCnt : (s.setRunning).unkCnt = s.unkCnt := rfl
@[simp] theorem setRunning_unkPc : (s.setRunning).unkPc = s.unkPc := rfl
@[simp] theorem setRunning_unkOp : (s.setRunning).unkOp = s.unkOp := rfl
@[simp] theorem setRunning_loaded : (s.setRunning).loaded = s.loaded := rfl
@[simp] theorem setRunning_cancel : (s.setRunning).cancel = s.cancel := rfl
@[simp] theorem setRunning_events : (s.setRunning).events = s.events := rfl
@[simp] theorem setRunning_hostScript : (s.setRunning).hostScript = s.hostScript := rfl
end setRunning

section setCancel
variable (s : State) (b : Bool)
@[simp] theorem setCancel_regs : (s.setCancel b).regs = s.regs := rfl
@[simp] theorem setCancel_pc : (s.setCancel b).pc = s.pc := rfl
@[simp] theorem setCancel_ipsel : (s.setCancel b).ipsel = s.ipsel := rfl
@[simp] theorem setCancel_program : (s.setCancel b).program = s.program := rfl
@[simp] theorem setCancel_steps : (s.setCancel b).steps = s.steps := rfl
@[simp] theorem setCancel_maxStepsEn : (s.setCancel b).maxStepsEn = s.maxStepsEn := rfl
@[simp] theorem setCancel_maxSteps : (s.setCancel b).maxSteps = s.maxSteps := rfl
@[simp] theorem setCancel_progressN : (s.setCancel b).progressN = s.progressN := rfl
@[simp] theorem setCancel_status : (s.setCancel b).status = s.status := rfl
@[simp] theorem setCancel_faultPc : (s.setCancel b).faultPc = s.faultPc := rfl
@[simp] theorem setCancel_faultIdx : (s.setCancel b).faultIdx = s.faultIdx := rfl
@[simp] theorem setCancel_faultFld : (s.setCancel b).faultFld = s.faultFld := rfl
@[simp] theorem setCancel_unkF : (s.setCancel b).unkF = s.unkF := rfl
@[simp] theorem setCancel_unkCnt : (s.setCancel b).unkCnt = s.unkCnt := rfl
@[simp] theorem setCancel_unkPc : (s.setCancel b).unkPc = s.unkPc := rfl
@[simp] theorem setCancel_unkOp : (s.setCancel b).unkOp = s.unkOp := rfl
@[simp] theorem setCancel_loaded : (s.setCancel b).loaded = s.loaded := rfl
@[simp] theorem setCancel_cancel : (s.setCancel b).cancel = b := rfl
@[simp] theorem setCancel_events : (s.setCancel b).events = s.events := rfl
@[simp] theorem setCancel_hostScript : (s.setCancel b).hostScript = s.hostScript := rfl
end setCancel

section hostReset
variable (s : State)
@[simp] theorem hostReset_regs : (s.hostReset).regs = State.reset.regs := rfl
@[simp] theorem hostReset_pc : (s.hostReset).pc = State.reset.pc := rfl
@[simp] theorem hostReset_ipsel : (s.hostReset).ipsel = State.reset.ipsel := rfl
@[simp] theorem hostReset_program : (s.hostReset).program = State.reset.program := rfl
@[simp] theorem hostReset_steps : (s.hostReset).steps = State.reset.steps := rfl
@[simp] theorem hostReset_maxStepsEn : (s.hostReset).maxStepsEn = State.reset.maxStepsEn := rfl
@[simp] theorem hostReset_maxSteps : (s.hostReset).maxSteps = State.reset.maxSteps := rfl
@[simp] theorem hostReset_progressN : (s.hostReset).progressN = State.reset.progressN := rfl
@[simp] theorem hostReset_status : (s.hostReset).status = State.reset.status := rfl
@[simp] theorem hostReset_faultPc : (s.hostReset).faultPc = State.reset.faultPc := rfl
@[simp] theorem hostReset_faultIdx : (s.hostReset).faultIdx = State.reset.faultIdx := rfl
@[simp] theorem hostReset_faultFld : (s.hostReset).faultFld = State.reset.faultFld := rfl
@[simp] theorem hostReset_unkF : (s.hostReset).unkF = State.reset.unkF := rfl
@[simp] theorem hostReset_unkCnt : (s.hostReset).unkCnt = State.reset.unkCnt := rfl
@[simp] theorem hostReset_unkPc : (s.hostReset).unkPc = State.reset.unkPc := rfl
@[simp] theorem hostReset_unkOp : (s.hostReset).unkOp = State.reset.unkOp := rfl
@[simp] theorem hostReset_loaded : (s.hostReset).loaded = State.reset.loaded := rfl
@[simp] theorem hostReset_cancel : (s.hostReset).cancel = s.cancel := rfl
@[simp] theorem hostReset_events : (s.hostReset).events = s.events := rfl
@[simp] theorem hostReset_hostScript : (s.hostReset).hostScript = s.hostScript := rfl
end hostReset

section afterMove
variable (s : State) (rest : List HostMove)
@[simp] theorem afterMove_regs : (s.afterMove rest).regs = s.regs := rfl
@[simp] theorem afterMove_pc : (s.afterMove rest).pc = s.pc := rfl
@[simp] theorem afterMove_ipsel : (s.afterMove rest).ipsel = s.ipsel := rfl
@[simp] theorem afterMove_program : (s.afterMove rest).program = s.program := rfl
@[simp] theorem afterMove_steps : (s.afterMove rest).steps = s.steps := rfl
@[simp] theorem afterMove_maxStepsEn : (s.afterMove rest).maxStepsEn = s.maxStepsEn := rfl
@[simp] theorem afterMove_maxSteps : (s.afterMove rest).maxSteps = s.maxSteps := rfl
@[simp] theorem afterMove_progressN : (s.afterMove rest).progressN = s.progressN := rfl
@[simp] theorem afterMove_status : (s.afterMove rest).status = s.status := rfl
@[simp] theorem afterMove_faultPc : (s.afterMove rest).faultPc = s.faultPc := rfl
@[simp] theorem afterMove_faultIdx : (s.afterMove rest).faultIdx = s.faultIdx := rfl
@[simp] theorem afterMove_faultFld : (s.afterMove rest).faultFld = s.faultFld := rfl
@[simp] theorem afterMove_unkF : (s.afterMove rest).unkF = s.unkF := rfl
@[simp] theorem afterMove_unkCnt : (s.afterMove rest).unkCnt = s.unkCnt := rfl
@[simp] theorem afterMove_unkPc : (s.afterMove rest).unkPc = s.unkPc := rfl
@[simp] theorem afterMove_unkOp : (s.afterMove rest).unkOp = s.unkOp := rfl
@[simp] theorem afterMove_loaded : (s.afterMove rest).loaded = s.loaded := rfl
@[simp] theorem afterMove_cancel : (s.afterMove rest).cancel = s.cancel := rfl
@[simp] theorem afterMove_events : (s.afterMove rest).events = s.events := rfl
@[simp] theorem afterMove_hostScript : (s.afterMove rest).hostScript = rest := rfl
end afterMove

section withX
variable (s : State) (f : Field) (v : Word)
@[simp] theorem withX_regs : (s.withX f v).regs = s.regs.setIfInBounds f.toNat v := rfl
@[simp] theorem withX_pc : (s.withX f v).pc = s.pc := rfl
@[simp] theorem withX_ipsel : (s.withX f v).ipsel = s.ipsel := rfl
@[simp] theorem withX_program : (s.withX f v).program = s.program := rfl
@[simp] theorem withX_steps : (s.withX f v).steps = s.steps := rfl
@[simp] theorem withX_maxStepsEn : (s.withX f v).maxStepsEn = s.maxStepsEn := rfl
@[simp] theorem withX_maxSteps : (s.withX f v).maxSteps = s.maxSteps := rfl
@[simp] theorem withX_progressN : (s.withX f v).progressN = s.progressN := rfl
@[simp] theorem withX_status : (s.withX f v).status = s.status := rfl
@[simp] theorem withX_faultPc : (s.withX f v).faultPc = s.faultPc := rfl
@[simp] theorem withX_faultIdx : (s.withX f v).faultIdx = s.faultIdx := rfl
@[simp] theorem withX_faultFld : (s.withX f v).faultFld = s.faultFld := rfl
@[simp] theorem withX_unkF : (s.withX f v).unkF = s.unkF := rfl
@[simp] theorem withX_unkCnt : (s.withX f v).unkCnt = s.unkCnt := rfl
@[simp] theorem withX_unkPc : (s.withX f v).unkPc = s.unkPc := rfl
@[simp] theorem withX_unkOp : (s.withX f v).unkOp = s.unkOp := rfl
@[simp] theorem withX_loaded : (s.withX f v).loaded = s.loaded := rfl
@[simp] theorem withX_cancel : (s.withX f v).cancel = s.cancel := rfl
@[simp] theorem withX_events : (s.withX f v).events = s.events := rfl
@[simp] theorem withX_hostScript : (s.withX f v).hostScript = s.hostScript := rfl
end withX

section indexFault
variable (s : State) (fld : FieldId) (idx : Field)
@[simp] theorem indexFault_regs : (s.indexFault fld idx).regs = s.regs := rfl
@[simp] theorem indexFault_pc : (s.indexFault fld idx).pc = s.pc := rfl
@[simp] theorem indexFault_ipsel : (s.indexFault fld idx).ipsel = s.ipsel := rfl
@[simp] theorem indexFault_program : (s.indexFault fld idx).program = s.program := rfl
@[simp] theorem indexFault_steps : (s.indexFault fld idx).steps = s.steps := rfl
@[simp] theorem indexFault_maxStepsEn : (s.indexFault fld idx).maxStepsEn = s.maxStepsEn := rfl
@[simp] theorem indexFault_maxSteps : (s.indexFault fld idx).maxSteps = s.maxSteps := rfl
@[simp] theorem indexFault_progressN : (s.indexFault fld idx).progressN = s.progressN := rfl
@[simp] theorem indexFault_status : (s.indexFault fld idx).status = .faultRegIdx := rfl
@[simp] theorem indexFault_faultPc : (s.indexFault fld idx).faultPc = s.pc := rfl
@[simp] theorem indexFault_faultIdx : (s.indexFault fld idx).faultIdx = idx := rfl
@[simp] theorem indexFault_faultFld : (s.indexFault fld idx).faultFld = fld := rfl
@[simp] theorem indexFault_unkF : (s.indexFault fld idx).unkF = s.unkF := rfl
@[simp] theorem indexFault_unkCnt : (s.indexFault fld idx).unkCnt = s.unkCnt := rfl
@[simp] theorem indexFault_unkPc : (s.indexFault fld idx).unkPc = s.unkPc := rfl
@[simp] theorem indexFault_unkOp : (s.indexFault fld idx).unkOp = s.unkOp := rfl
@[simp] theorem indexFault_loaded : (s.indexFault fld idx).loaded = s.loaded := rfl
@[simp] theorem indexFault_cancel : (s.indexFault fld idx).cancel = s.cancel := rfl
@[simp] theorem indexFault_events : (s.indexFault fld idx).events = s.events := rfl
@[simp] theorem indexFault_hostScript : (s.indexFault fld idx).hostScript = s.hostScript := rfl
end indexFault

section unknownWarned
variable (s : State) (op : Field)
@[simp] theorem unknownWarned_regs : (s.unknownWarned op).regs = s.regs := rfl
@[simp] theorem unknownWarned_pc : (s.unknownWarned op).pc = s.pc := rfl
@[simp] theorem unknownWarned_ipsel : (s.unknownWarned op).ipsel = s.ipsel := rfl
@[simp] theorem unknownWarned_program : (s.unknownWarned op).program = s.program := rfl
@[simp] theorem unknownWarned_steps : (s.unknownWarned op).steps = s.steps := rfl
@[simp] theorem unknownWarned_maxStepsEn : (s.unknownWarned op).maxStepsEn = s.maxStepsEn := rfl
@[simp] theorem unknownWarned_maxSteps : (s.unknownWarned op).maxSteps = s.maxSteps := rfl
@[simp] theorem unknownWarned_progressN : (s.unknownWarned op).progressN = s.progressN := rfl
@[simp] theorem unknownWarned_status : (s.unknownWarned op).status = s.status := rfl
@[simp] theorem unknownWarned_faultPc : (s.unknownWarned op).faultPc = s.faultPc := rfl
@[simp] theorem unknownWarned_faultIdx : (s.unknownWarned op).faultIdx = s.faultIdx := rfl
@[simp] theorem unknownWarned_faultFld : (s.unknownWarned op).faultFld = s.faultFld := rfl
@[simp] theorem unknownWarned_unkF : (s.unknownWarned op).unkF = true := rfl
@[simp] theorem unknownWarned_unkCnt : (s.unknownWarned op).unkCnt = s.unkCnt + 1 := rfl
@[simp] theorem unknownWarned_unkPc : (s.unknownWarned op).unkPc = s.pc := rfl
@[simp] theorem unknownWarned_unkOp : (s.unknownWarned op).unkOp = op := rfl
@[simp] theorem unknownWarned_loaded : (s.unknownWarned op).loaded = s.loaded := rfl
@[simp] theorem unknownWarned_cancel : (s.unknownWarned op).cancel = s.cancel := rfl
@[simp] theorem unknownWarned_events : (s.unknownWarned op).events = s.events ++ [.warn s.pc op] := rfl
@[simp] theorem unknownWarned_hostScript : (s.unknownWarned op).hostScript = s.hostScript := rfl
end unknownWarned

section stepEnded
variable (s : State)
@[simp] theorem stepEnded_regs : (s.stepEnded).regs = s.regs := rfl
@[simp] theorem stepEnded_pc : (s.stepEnded).pc = wrap64 ((s.x s.ipField).toInt + 1) := rfl
@[simp] theorem stepEnded_ipsel : (s.stepEnded).ipsel = s.ipsel := rfl
@[simp] theorem stepEnded_program : (s.stepEnded).program = s.program := rfl
@[simp] theorem stepEnded_steps : (s.stepEnded).steps = s.steps + 1 := rfl
@[simp] theorem stepEnded_maxStepsEn : (s.stepEnded).maxStepsEn = s.maxStepsEn := rfl
@[simp] theorem stepEnded_maxSteps : (s.stepEnded).maxSteps = s.maxSteps := rfl
@[simp] theorem stepEnded_progressN : (s.stepEnded).progressN = s.progressN := rfl
@[simp] theorem stepEnded_status : (s.stepEnded).status = s.status := rfl
@[simp] theorem stepEnded_faultPc : (s.stepEnded).faultPc = s.faultPc := rfl
@[simp] theorem stepEnded_faultIdx : (s.stepEnded).faultIdx = s.faultIdx := rfl
@[simp] theorem stepEnded_faultFld : (s.stepEnded).faultFld = s.faultFld := rfl
@[simp] theorem stepEnded_unkF : (s.stepEnded).unkF = s.unkF := rfl
@[simp] theorem stepEnded_unkCnt : (s.stepEnded).unkCnt = s.unkCnt := rfl
@[simp] theorem stepEnded_unkPc : (s.stepEnded).unkPc = s.unkPc := rfl
@[simp] theorem stepEnded_unkOp : (s.stepEnded).unkOp = s.unkOp := rfl
@[simp] theorem stepEnded_loaded : (s.stepEnded).loaded = s.loaded := rfl
@[simp] theorem stepEnded_cancel : (s.stepEnded).cancel = s.cancel := rfl
@[simp] theorem stepEnded_hostScript : (s.stepEnded).hostScript = s.hostScript := rfl
end stepEnded

section mirrored
variable (s : State)
@[simp] theorem mirrored_regs : (s.mirrored).regs = s.regs.setIfInBounds s.ipField.toNat s.pc := rfl
@[simp] theorem mirrored_pc : (s.mirrored).pc = s.pc := rfl
@[simp] theorem mirrored_ipsel : (s.mirrored).ipsel = s.ipsel := rfl
@[simp] theorem mirrored_program : (s.mirrored).program = s.program := rfl
@[simp] theorem mirrored_steps : (s.mirrored).steps = s.steps := rfl
@[simp] theorem mirrored_maxStepsEn : (s.mirrored).maxStepsEn = s.maxStepsEn := rfl
@[simp] theorem mirrored_maxSteps : (s.mirrored).maxSteps = s.maxSteps := rfl
@[simp] theorem mirrored_progressN : (s.mirrored).progressN = s.progressN := rfl
@[simp] theorem mirrored_status : (s.mirrored).status = s.status := rfl
@[simp] theorem mirrored_faultPc : (s.mirrored).faultPc = s.faultPc := rfl
@[simp] theorem mirrored_faultIdx : (s.mirrored).faultIdx = s.faultIdx := rfl
@[simp] theorem mirrored_faultFld : (s.mirrored).faultFld = s.faultFld := rfl
@[simp] theorem mirrored_unkF : (s.mirrored).unkF = s.unkF := rfl
@[simp] theorem mirrored_unkCnt : (s.mirrored).unkCnt = s.unkCnt := rfl
@[simp] theorem mirrored_unkPc : (s.mirrored).unkPc = s.unkPc := rfl
@[simp] theorem mirrored_unkOp : (s.mirrored).unkOp = s.unkOp := rfl
@[simp] theorem mirrored_loaded : (s.mirrored).loaded = s.loaded := rfl
@[simp] theorem mirrored_cancel : (s.mirrored).cancel = s.cancel := rfl
@[simp] theorem mirrored_events : (s.mirrored).events = s.events := rfl
@[simp] theorem mirrored_hostScript : (s.mirrored).hostScript = s.hostScript := rfl
end mirrored

end Sys2Proof.Machine.State
end

