-- ==== Sys2Proof/Laws/Registers.lean ====
section
/-!
SUPPORT. Register access: read after write by field, and that the machine's register operations, which go through a checked
register number, are the claims' `State.x` and `State.withX` on a legal field.
-/

namespace Sys2Proof.Machine

theorem regIndex?_eq_some {f : Field} (h : IsReg f) : ∃ r : RegIdx, regIndex? f = some r ∧ r.val = f.toNat :=
  ⟨⟨f.toNat, by show f.toNat < 6; omega⟩, by simp only [regIndex?]; rw [dif_pos], rfl⟩

theorem regIndex?_eq_none {f : Field} (h : ¬IsReg f) : regIndex? f = none := by
  simp only [regIndex?]; rw [dif_neg]; show ¬f.toNat < 6; omega

theorem ipField_toNat (s : State) : s.ipField.toNat = s.ipsel.toNat := by
  have := s.ipsel.isLt
  simp only [State.ipField, BitVec.toNat_setWidth]; omega

theorem isReg_ipField {s : State} (h : s.ipsel.toNat ≤ 5) : IsReg s.ipField := by
  rw [IsReg, ipField_toNat]; exact h

theorem ipIndex?_eq_some {s : State} (h : s.ipsel.toNat ≤ 5) :
    ∃ r : RegIdx, ipIndex? s.ipsel = some r ∧ r.val = s.ipField.toNat :=
  ⟨⟨s.ipsel.toNat, by show s.ipsel.toNat < 6; omega⟩, by simp only [ipIndex?]; rw [dif_pos], (ipField_toNat s).symm⟩

theorem ipIndex?_eq_none {p : IpSel} (h : 5 < p.toNat) : ipIndex? p = none := by
  simp only [ipIndex?]; rw [dif_neg]; show ¬p.toNat < 6; omega

theorem setIfInBounds_eq_set (regs : RegFile) {i : Nat} (v : Word) (h : i < 6) :
    regs.setIfInBounds i v = regs.set i v h := by
  apply Vector.ext
  intro j hj
  simp [Vector.getElem_setIfInBounds, Vector.getElem_set]

theorem readReg_eq_x (s : State) {r : RegIdx} {f : Field} (h : r.val = f.toNat) : s.readReg r = s.x f := by
  have hr : f.toNat < 6 := h ▸ r.isLt
  simp only [State.readReg, State.x, Vector.get_eq_getElem, h]
  rw [Vector.getElem?_eq_getElem hr]; rfl

theorem writeReg_eq_withX (s : State) {r : RegIdx} {f : Field} (v : Word) (h : r.val = f.toNat) :
    s.writeReg r v = s.withX f v := by
  have hr : f.toNat < 6 := h ▸ r.isLt
  simp only [State.writeReg, State.withX, h, setIfInBounds_eq_set s.regs v hr]

theorem x_withX_same (s : State) {f : Field} (v : Word) (h : IsReg f) : (s.withX f v).x f = v := by
  have hr : f.toNat < 6 := by have : f.toNat ≤ 5 := h; omega
  simp [State.x, hr]

theorem x_withX_other (s : State) {f g : Field} (v : Word) (h : g ≠ f) : (s.withX f v).x g = s.x g := by
  have hn : f.toNat ≠ g.toNat := fun e => h (BitVec.eq_of_toNat_eq e.symm)
  simp [State.x, hn]

@[simp] theorem withX_withX (s : State) (f : Field) (v w : Word) : (s.withX f v).withX f w = s.withX f w := by
  simp [State.withX]

/-- Writing a register the value it has changes nothing. -/
theorem withX_self (s : State) (f : Field) (h : IsReg f) : s.withX f (s.x f) = s := by
  have hr : f.toNat < 6 := by have : f.toNat ≤ 5 := h; omega
  simp [State.withX, State.x, hr, setIfInBounds_eq_set s.regs _ hr]

theorem mirrored_x_ipField {s : State} (h : s.ipsel.toNat ≤ 5) : s.mirrored.x s.ipField = s.pc :=
  x_withX_same s s.pc (isReg_ipField h)

@[simp] theorem ipField_withX (s : State) (f : Field) (v : Word) : (s.withX f v).ipField = s.ipField := rfl

@[simp] theorem ipField_mirrored (s : State) : s.mirrored.ipField = s.ipField := rfl

theorem takeIndexFault_eq_indexFault (s : State) (fld : FieldId) (idx : Field) :
    s.takeIndexFault fld idx = s.indexFault fld idx := rfl

theorem warnUnknown_eq_unknownWarned (s : State) (op : Field) : s.warnUnknown op = s.unknownWarned op := rfl

/-- Phases 10 to 12 are the claims' end of a step. -/
theorem finishStep_eq_stepEnded (s : State) {ip : RegIdx} (h : ip.val = s.ipField.toNat) :
    s.finishStep ip = s.stepEnded := by
  have hx := readReg_eq_x s h
  simp only [State.finishStep, State.latch, State.count, State.emitProgress, State.progressEvents, State.stepEnded, hx]

end Sys2Proof.Machine
end

