-- ==== Sys2Proof/Laws/Execute.lean ====
section
/-!
SUPPORT. What the shared phases 7 to 9 can do: an operand's value by its mode, and the outcome of `execute`.
-/

namespace Sys2Proof.Machine

theorem value?_reg {s : State} {f : Field} (h : IsReg f) : (Operand.reg f).value? s = some (s.x f) := by
  obtain ⟨r, hr, hv⟩ := regIndex?_eq_some h
  simp [Operand.value?, hr, readReg_eq_x s hv]

theorem value?_reg_none {s : State} {f : Field} (h : ¬IsReg f) : (Operand.reg f).value? s = none := by
  simp [Operand.value?, regIndex?_eq_none h]

@[simp] theorem value?_imm (s : State) (f : Field) : (Operand.imm f).value? s = some (zext64 f) := rfl

@[simp] theorem value?_ignored (s : State) (f : Field) : (Operand.ignored f).value? s = some 0 := rfl

theorem execute_ok {a b : Operand} {c : Field} {result : Word → Word → Word} {s : State} {u v : Word}
    (ha : a.value? s = some u) (hb : b.value? s = some v) (hc : IsReg c) :
    execute a b c result s = .next (s.withX c (result u v)) := by
  obtain ⟨r, hr, hv⟩ := regIndex?_eq_some hc
  simp only [execute, ha, hb, hr, writeReg_eq_withX s _ hv]

theorem execute_fault_a {a b : Operand} {c : Field} {result : Word → Word → Word} {s : State}
    (ha : a.value? s = none) : execute a b c result s = .next (s.indexFault .a a.field) := by
  simp only [execute, ha, takeIndexFault_eq_indexFault]

theorem execute_fault_b {a b : Operand} {c : Field} {result : Word → Word → Word} {s : State} {u : Word}
    (ha : a.value? s = some u) (hb : b.value? s = none) :
    execute a b c result s = .next (s.indexFault .b b.field) := by
  simp only [execute, ha, hb, takeIndexFault_eq_indexFault]

theorem execute_fault_c {a b : Operand} {c : Field} {result : Word → Word → Word} {s : State} {u v : Word}
    (ha : a.value? s = some u) (hb : b.value? s = some v) (hc : ¬IsReg c) :
    execute a b c result s = .next (s.indexFault .c c) := by
  simp only [execute, ha, hb, regIndex?_eq_none hc, takeIndexFault_eq_indexFault]

/-- Everything `execute` can do: it answers a next state, which is the result written back to a legal destination, or the
first failing field's fault. -/
theorem execute_cases (a b : Operand) (c : Field) (result : Word → Word → Word) (s : State) :
    (∃ u v, a.value? s = some u ∧ b.value? s = some v ∧ IsReg c ∧
      execute a b c result s = .next (s.withX c (result u v))) ∨
    (a.value? s = none ∧ execute a b c result s = .next (s.indexFault .a a.field)) ∨
    (a.value? s ≠ none ∧ b.value? s = none ∧ execute a b c result s = .next (s.indexFault .b b.field)) ∨
    (a.value? s ≠ none ∧ b.value? s ≠ none ∧ ¬IsReg c ∧ execute a b c result s = .next (s.indexFault .c c)) := by
  cases ha : a.value? s with
  | none => exact .inr (.inl ⟨rfl, execute_fault_a ha⟩)
  | some u =>
    cases hb : b.value? s with
    | none => exact .inr (.inr (.inl ⟨by simp, rfl, execute_fault_b ha hb⟩))
    | some v =>
      by_cases hc : IsReg c
      · exact .inl ⟨u, v, rfl, rfl, hc, execute_ok ha hb hc⟩
      · exact .inr (.inr (.inr ⟨by simp, by simp, hc, execute_fault_c ha hb hc⟩))

end Sys2Proof.Machine
end

