-- ==== Sys2Proof/Laws/Step.lean ====
section
/-!
SUPPORT. What a turn can do: the stopping tests, whose turn it is, the shape of a cycle with a legal binding, the one
inversion lemma of exec over all 16 instructions and the one of a step in which the engine runs, and how a run goes on
after a step.
-/

namespace Sys2Proof.Machine

theorem pcOutside_iff (s : State) : s.pcOutside = true ↔ ¬PcInside s := by
  simp only [State.pcOutside, decide_eq_true_eq, PcInside]; omega

theorem atStepBound_iff (s : State) : s.atStepBound = true ↔ BoundReached s := by
  simp [State.atStepBound, BoundReached]

/-- Phases 2 to 4 as the claims name their conditions. -/
theorem stopTest_eq (s : State) :
    s.stopTest =
      if ¬PcInside s then some .halted
      else if s.cancel = true then some .cancelled
      else if BoundReached s then some .stepBound
      else none := by
  simp only [State.stopTest, pcOutside_iff, atStepBound_iff]

/-- A status the stopping tests give is one of the three stops they name, with its cause. -/
theorem stopTest_cases {s : State} {st : Status} (h : s.stopTest = some st) :
    (st = .halted ∧ ¬PcInside s) ∨ (st = .cancelled ∧ PcInside s ∧ s.cancel = true) ∨
      (st = .stepBound ∧ PcInside s ∧ s.cancel = false ∧ BoundReached s) := by
  rw [stopTest_eq] at h
  split_ifs at h with h1 h2 h3
  · exact .inr (.inl ⟨(Option.some.inj h).symm, h1, h2⟩)
  · exact .inr (.inr ⟨(Option.some.inj h).symm, h1, by simpa using h2, h3⟩)
  · exact .inl ⟨(Option.some.inj h).symm, h1⟩

theorem stopTest_none {s : State} (h : s.stopTest = none) : PcInside s ∧ s.cancel = false ∧ ¬BoundReached s := by
  rw [stopTest_eq] at h
  split_ifs at h with h1 h2 h3
  exact ⟨h1, by simpa using h2, h3⟩

theorem step_engine {s : State} (h : s.hostScript = []) : step s = engineTurn s := by
  simp only [step, takeTurn, h]

theorem step_host {s : State} {m : HostMove} {rest : List HostMove} (h : s.hostScript = m :: rest) :
    step s = hostTurn m (s.afterMove rest) := by
  simp only [step, takeTurn, h]

theorem engineTurn_running {s : State} (h : s.status = .running) : engineTurn s = cycle s := if_pos h

theorem engineTurn_still {s : State} (h : s.status ≠ .running) : engineTurn s = .next s := if_neg h

/-- The cycle with a legal binding, in the model's own operations on the mirrored state. -/
theorem cycle_eq {s : State} (h : s.ipsel.toNat ≤ 5) :
    ∃ ip : RegIdx, ip.val = s.ipField.toNat ∧
      cycle s =
        match s.mirrored.stopTest with
        | some st => .next (s.mirrored.stop st)
        | none =>
          match s.mirrored.fetch with
          | none => .fault .fetchOutsideProgram
          | some w => runDecoded ip (decode w) s.mirrored := by
  obtain ⟨ip, hip, hv⟩ := ipIndex?_eq_some h
  refine ⟨ip, hv, ?_⟩
  simp only [cycle, hip, writeReg_eq_withX s s.pc hv]
  rfl

/-- Everything an instruction can do: write one value to its destination, or take the index fault. -/
theorem exec_cases (i : Instr) (s : State) :
    (∃ v, exec i s = .next (s.withX i.dest v)) ∨ (∃ fld idx, exec i s = .next (s.indexFault fld idx)) := by
  have key : ∀ (a b : Operand) (c : Field) (result : Word → Word → Word),
      (∃ v, execute a b c result s = .next (s.withX c v)) ∨
        (∃ fld idx, execute a b c result s = .next (s.indexFault fld idx)) := by
    intro a b c result
    rcases execute_cases a b c result s with ⟨u, v, -, -, -, h⟩ | ⟨-, h⟩ | ⟨-, -, h⟩ | ⟨-, -, -, h⟩
    · exact .inl ⟨_, h⟩
    · exact .inr ⟨_, _, h⟩
    · exact .inr ⟨_, _, h⟩
    · exact .inr ⟨_, _, h⟩
  cases i <;> exact key ..

/-- No instruction changes IPSEL, so the latch reads the register the mirror write wrote. -/
theorem exec_ipField {i : Instr} {s t : State} (h : exec i s = .next t) : t.ipField = s.ipField := by
  rcases exec_cases i s with ⟨v, e⟩ | ⟨fld, idx, e⟩ <;> rw [e] at h <;> cases h <;> rfl

/-- Everything a step can be in which the engine runs: a stopping cycle, an unknown opcode's step, an instruction's step, or
an index fault. -/
theorem step_cases {s t : State} (h : EngineRuns s) (e : step s = .next t) :
    (∃ st, s.stopTest = some st ∧ t = s.mirrored.stop st) ∨
    (s.stopTest = none ∧ ∃ w, s.program[s.pc.toNat]? = some w ∧
      ((∃ op, decode w = .unknownOpcode op ∧ t = (s.mirrored.unknownWarned op).stepEnded) ∨
        ∃ i, decode w = .instr i ∧
          ((∃ v, exec i s.mirrored = .next (s.mirrored.withX i.dest v) ∧ t = (s.mirrored.withX i.dest v).stepEnded) ∨
            ∃ fld idx, exec i s.mirrored = .next (s.mirrored.indexFault fld idx) ∧
              t = s.mirrored.indexFault fld idx))) := by
  obtain ⟨h1, h2, h3⟩ := h
  obtain ⟨ip, hv, he⟩ := cycle_eq h3
  rw [step_engine h2, engineTurn_running h1, he, show s.mirrored.stopTest = s.stopTest from rfl,
    show s.mirrored.fetch = s.program[s.pc.toNat]? from rfl] at e
  cases hs : s.stopTest with
  | some st => rw [hs] at e; cases e; exact .inl ⟨st, rfl, rfl⟩
  | none =>
    rw [hs] at e
    cases hf : s.program[s.pc.toNat]? with
    | none => rw [hf] at e; cases e
    | some w =>
      rw [hf] at e
      simp only at e
      refine .inr ⟨rfl, w, rfl, ?_⟩
      cases hd : decode w with
      | unknownOpcode op =>
        rw [hd] at e; cases e
        exact .inl ⟨op, rfl, finishStep_eq_stepEnded (s.mirrored.unknownWarned op) hv⟩
      | instr i =>
        rw [hd] at e
        refine .inr ⟨i, rfl, ?_⟩
        rcases exec_cases i s.mirrored with ⟨v, hx⟩ | ⟨fld, idx, hx⟩ <;> simp only [runDecoded, hx] at e
        · rw [if_pos (show (s.mirrored.withX i.dest v).status = .running from h1)] at e; cases e
          exact .inl ⟨v, hx, finishStep_eq_stepEnded (s.mirrored.withX i.dest v) hv⟩
        · rw [if_neg (by simp)] at e; cases e
          exact .inr ⟨fld, idx, hx, rfl⟩

theorem warnings_append (l m : List Event) : warnings (l ++ m) = warnings l ++ warnings m := List.filter_append ..

/-- The end of a step puts out no warn event. -/
theorem stepEnded_events (t : State) : ∃ l, t.stepEnded.events = t.events ++ l ∧ warnings l = [] := by
  refine ⟨_, rfl, ?_⟩
  split_ifs <;> rfl

/-- The warning of an unknown opcode is its one warn event. -/
theorem warnings_warn (p : Word) (op : Field) (l : List Event) : warnings (.warn p op :: l) = .warn p op :: warnings l := rfl

/-- A run goes on from the next state. -/
theorem core_run_next {s t : State} (k : Nat) (h : step s = .next t) : core.run (k + 1) s = core.run k t := by
  have key : ∀ (M : Host.Core) (u v : M.State), M.step u = .next v → M.run (k + 1) u = M.run k v := by
    intro M u v e; simp [Host.Core.run, e]
  exact key core s t h

/-- A run ends in the fault of its first step. -/
theorem core_run_fault {s : State} {r : Fault} (k : Nat) (h : step s = .fault r) : core.run (k + 1) s = .fault r := by
  have key : ∀ (M : Host.Core) (u : M.State) (q : M.Fault), M.step u = .fault q → M.run (k + 1) u = .fault q := by
    intro M u q e; simp [Host.Core.run, e]
  exact key core s r h

/-- A run ends in the refusal of its first step. -/
theorem core_run_refused {s : State} {r : Refusal} (k : Nat) (h : step s = .refused r) :
    core.run (k + 1) s = .refused r := by
  have key : ∀ (M : Host.Core) (u : M.State) (q : M.Refusal), M.step u = .refused q → M.run (k + 1) u = .refused q := by
    intro M u q e; simp [Host.Core.run, e]
  exact key core s r h

end Sys2Proof.Machine
end

