-- ==== Sys2Proof/Laws/Memory.lean ====
section
/-!
SUPPORT. Every operation that writes the program store keeps its form (00_scope.md R9): LOAD, RESET and the placing of a
word; and the store after reset has it.
-/

namespace Sys2Proof.Machine

theorem memory_wf_iff (p : List InstrWord) : Memory.wf p = true ↔ p.length ≤ Config.imemDepth := by
  simp [Memory.wf]

theorem memory_wf_reset : Memory.wf State.reset.program = true := by decide

theorem hostReset_memory_wf (s : State) : Memory.wf s.hostReset.program = true := memory_wf_reset

theorem hostLoad_memory_wf {l : LoadArgs} {s t : State} (h : hostLoad l s = .next t) : Memory.wf t.program = true := by
  simp only [hostLoad] at h
  split_ifs at h with h1 h2
  cases h
  rw [memory_wf_iff]
  exact Nat.le_of_not_lt h2

theorem placeForFetch_memory_wf {s : State} (w : InstrWord) (h : Memory.wf s.program = true) :
    Memory.wf (s.placeForFetch w).program = true := by
  rw [memory_wf_iff] at *
  simp only [State.placeForFetch]
  split_ifs
  · simp [Config.imemDepth]
  · simpa using h

/-- Where the word at an index was placed it is read back, and every other index reads as before. -/
theorem program_read_after_set (p : List InstrWord) (i j : Nat) (w : InstrWord) (h : i < p.length) :
    (p.set i w)[j]? = if i = j then some w else p[j]? := by
  rw [List.getElem?_set]
  split_ifs with h1
  · rfl
  · rfl

end Sys2Proof.Machine
end

