-- ==== Sys2Proof/Laws/PerInstr.lean ====
section
/-!
SUPPORT. Statements about every instruction as syntax, one lemma per constructor.
-/

namespace Sys2Proof.Laws.EncodedFields

/-- The encoding of an instruction has an opcode field of the 16 defined numbers and its destination in the field `c`, and
the last field it uses as a register index is its destination (30_encoding.md R84, R88). -/
def Statement (i : Instr) : Prop :=
  (wordOpcode (encode i)).toNat ≤ 15 ∧ wordC (encode i) = i.dest ∧ i.indexFields.getLast? = some (.c, i.dest)

theorem of_pack {i : Instr} (op a b : Field) (he : encode i = packWord op a b i.dest) (ho : op.toNat ≤ 15)
    (hl : i.indexFields.getLast? = some (.c, i.dest)) : Statement i := by
  refine ⟨?_, ?_, hl⟩
  · rw [he, wordOpcode_packWord]; exact ho
  · rw [he, wordC_packWord]

theorem addr (a b c : Field) : Statement (.addr a b c) := of_pack _ a b rfl (by decide) rfl
theorem addi (a b c : Field) : Statement (.addi a b c) := of_pack _ a b rfl (by decide) rfl
theorem mulr (a b c : Field) : Statement (.mulr a b c) := of_pack _ a b rfl (by decide) rfl
theorem muli (a b c : Field) : Statement (.muli a b c) := of_pack _ a b rfl (by decide) rfl
theorem banr (a b c : Field) : Statement (.banr a b c) := of_pack _ a b rfl (by decide) rfl
theorem bani (a b c : Field) : Statement (.bani a b c) := of_pack _ a b rfl (by decide) rfl
theorem borr (a b c : Field) : Statement (.borr a b c) := of_pack _ a b rfl (by decide) rfl
theorem bori (a b c : Field) : Statement (.bori a b c) := of_pack _ a b rfl (by decide) rfl
theorem setr (a b c : Field) : Statement (.setr a b c) := of_pack _ a b rfl (by decide) rfl
theorem seti (a b c : Field) : Statement (.seti a b c) := of_pack _ a b rfl (by decide) rfl
theorem gtir (a b c : Field) : Statement (.gtir a b c) := of_pack _ a b rfl (by decide) rfl
theorem gtri (a b c : Field) : Statement (.gtri a b c) := of_pack _ a b rfl (by decide) rfl
theorem gtrr (a b c : Field) : Statement (.gtrr a b c) := of_pack _ a b rfl (by decide) rfl
theorem eqir (a b c : Field) : Statement (.eqir a b c) := of_pack _ a b rfl (by decide) rfl
theorem eqri (a b c : Field) : Statement (.eqri a b c) := of_pack _ a b rfl (by decide) rfl
theorem eqrr (a b c : Field) : Statement (.eqrr a b c) := of_pack _ a b rfl (by decide) rfl

end Sys2Proof.Laws.EncodedFields
end

