-- ==== Sys2Proof/Tests/Slice0.lean ====
section
/-!
SUPPORT. Tests: expected values are the spec's own worked examples and vectors (95_test_vectors.md), named at each
theorem.
The theorems named witness_<statement> show states and operands that meet the hypotheses of that statement, each of its
clauses at a boundary value.
-/

namespace Sys2Proof.Tests

open Sys2Proof.Machine

/-- The next state of an outcome. -/
def nextOf : Host.Outcome State Fault Refusal → Option State
  | .next t => some t
  | .fault _ => none
  | .refused _ => none

/-- The refusal of an outcome. -/
def refusalOf : Host.Outcome State Fault Refusal → Option Refusal
  | .next _ => none
  | .fault _ => none
  | .refused r => some r

/-- The machine after reset with the given registers: "apply level" of 95_test_vectors.md. -/
def withRegs (r : RegFile) : State := { State.reset with regs := r }

/-- The registers after one instruction. -/
def after (i : Instr) (r : RegFile) : Option RegFile := (nextOf (exec i (withRegs r))).map State.regs

/-- The fault record and the registers after one instruction that takes the index fault; none where it does not. -/
def faultAfter (i : Instr) (r : RegFile) : Option (FaultRecord × RegFile) :=
  match nextOf (exec i (withRegs r)) with
  | some t => if t.status = .faultRegIdx then some (⟨t.faultPc, t.faultIdx, t.faultFld⟩, t.regs) else none
  | none => none

/-- A running machine in the middle of a run: "engine level" of 95_test_vectors.md. -/
def running (program : List InstrWord) (ipsel : IpSel) (r : RegFile) (pc steps : Word) : State :=
  { State.reset with program, ipsel, regs := r, pc, steps, status := .running, loaded := true }

/-- What 95_test_vectors.md gives of an end state. -/
structure Seen where
  status : Status
  regs : RegFile
  pc : Word
  steps : Word
  deriving DecidableEq, Repr

/-- Status, registers, `pc` and `STEPS` after one step. -/
def seenAfterStep (s : State) : Option Seen := (nextOf (step s)).map fun t => ⟨t.status, t.regs, t.pc, t.steps⟩

/-! Well-formedness: one ill-formed term for each check (30_encoding.md R90, R95). -/

theorem test_wellFormed_refuses_bad_a :
    (Instr.addr 6 0 0).wellFormed = false ∧ (Instr.addi 4294967295 0 0).wellFormed = false ∧
      (Instr.setr 6 0 1).wellFormed = false := by decide

theorem test_wellFormed_refuses_bad_b :
    (Instr.addr 0 6 0).wellFormed = false ∧ (Instr.gtir 0 6 0).wellFormed = false := by decide

theorem test_wellFormed_refuses_bad_c :
    (Instr.addr 0 0 6).wellFormed = false ∧ (Instr.seti 0 0 6).wellFormed = false ∧
      (Instr.eqri 0 6 7).wellFormed = false := by decide

theorem test_wellFormed_accepts_five_and_unchecked_fields :
    (Instr.addr 5 5 5).wellFormed = true ∧ (Instr.addi 0 6 0).wellFormed = true ∧
      (Instr.gtir 6 5 0).wellFormed = true ∧
      (Instr.setr 5 6 5).wellFormed = true ∧ (Instr.seti 6 6 5).wellFormed = true := by decide

/-! Decoding: one word of each constructor, written out in 95_test_vectors.md part 2. -/

theorem test_decode_addr : decode 0x00000000_00000000_00000001_00000002#128 = .instr (.addr 0 1 2) := by decide

theorem test_decode_addi : decode 0x00000001_00000001_00000007_00000002#128 = .instr (.addi 1 7 2) := by decide

theorem test_decode_mulr : decode 0x00000002_00000000_00000001_00000002#128 = .instr (.mulr 0 1 2) := by decide

theorem test_decode_muli : decode 0x00000003_00000000_FFFFFFFF_00000001#128 = .instr (.muli 0 4294967295 1) := by decide

theorem test_decode_banr : decode 0x00000004_00000000_00000001_00000002#128 = .instr (.banr 0 1 2) := by decide

theorem test_decode_bani : decode 0x00000005_00000000_00FFFFFF_00000001#128 = .instr (.bani 0 16777215 1) := by decide

theorem test_decode_borr : decode 0x00000006_00000000_00000001_00000002#128 = .instr (.borr 0 1 2) := by decide

theorem test_decode_bori : decode 0x00000007_00000000_FFFFFFFF_00000001#128 = .instr (.bori 0 4294967295 1) := by decide

theorem test_decode_setr : decode 0x00000008_00000001_00000000_00000002#128 = .instr (.setr 1 0 2) := by decide

theorem test_decode_seti : decode 0x00000009_FFFFFFFF_00000000_00000001#128 = .instr (.seti 4294967295 0 1) := by decide

theorem test_decode_gtir : decode 0x0000000A_00000007_00000001_00000002#128 = .instr (.gtir 7 1 2) := by decide

theorem test_decode_gtri : decode 0x0000000B_00000001_00000004_00000002#128 = .instr (.gtri 1 4 2) := by decide

theorem test_decode_gtrr : decode 0x0000000C_00000001_00000000_00000002#128 = .instr (.gtrr 1 0 2) := by decide

theorem test_decode_eqir : decode 0x0000000D_FFFFFFFF_00000000_00000001#128 = .instr (.eqir 4294967295 0 1) := by decide

theorem test_decode_eqri : decode 0x0000000E_00000000_00000003_00000002#128 = .instr (.eqri 0 3 2) := by decide

theorem test_decode_eqrr : decode 0x0000000F_00000000_00000003_00000002#128 = .instr (.eqrr 0 3 2) := by decide

theorem test_decode_unknown :
    decode 0x00000010_00000009_00000009_00000009#128 = .unknownOpcode 16 ∧
      decode 0xFFFFFFFF_00000000_00000000_00000000#128 = .unknownOpcode 4294967295 ∧
      decodeTableWord 128 0x00000010_00000009_00000009_00000009 = none := by decide

theorem test_decodeTableWord :
    decodeTableWord 128 0x00000009_00000005_00000000_00000001 = some (.seti 5 0 1) := by decide

/-! Execution: vectors V-A, V-B, V-M and V-C of 95_test_vectors.md. -/

/-- V-A. -/
theorem test_addr :
    after (.addr 0 1 2) #v[9223372036854775807, 1, 0, 0, 0, 0] =
        some #v[9223372036854775807, 1, -9223372036854775808, 0, 0, 0] ∧
      after (.addr 0 0 0) #v[21, 0, 0, 0, 0, 0] = some #v[42, 0, 0, 0, 0, 0] := by decide

/-- W1, V-A. -/
theorem test_addi :
    after (.addi 1 7 2) #v[3, 5, 0, 0, 0, 0] = some #v[3, 5, 12, 0, 0, 0] ∧
      after (.addi 0 4294967295 1) #v[0, 0, 0, 0, 0, 0] = some #v[0, 4294967295, 0, 0, 0, 0] := by decide

/-- V-A. -/
theorem test_mulr :
    after (.mulr 0 1 2) #v[-3, 4, 0, 0, 0, 0] = some #v[-3, 4, -12, 0, 0, 0] ∧
      after (.mulr 0 1 2) #v[4294967295, 4294967297, 0, 0, 0, 0] = some #v[4294967295, 4294967297, -1, 0, 0, 0] := by
  decide

/-- V-A. -/
theorem test_muli :
    after (.muli 0 4294967295 1) #v[-1, 0, 0, 0, 0, 0] = some #v[-1, -4294967295, 0, 0, 0, 0] ∧
      after (.muli 0 3 0) #v[-9223372036854775808, 0, 0, 0, 0, 0] = some #v[-9223372036854775808, 0, 0, 0, 0, 0] := by
  decide

/-- V-B. -/
theorem test_banr :
    after (.banr 0 1 2) #v[-8, 12, 0, 0, 0, 0] = some #v[-8, 12, 8, 0, 0, 0] ∧
      after (.banr 0 1 2) #v[-1, -2, 0, 0, 0, 0] = some #v[-1, -2, -2, 0, 0, 0] := by decide

/-- V-B. -/
theorem test_bani :
    after (.bani 0 16777215 1) #v[78187493530, 0, 0, 0, 0, 0] = some #v[78187493530, 5666970, 0, 0, 0, 0] ∧
      after (.bani 0 4294967295 1) #v[-1, 0, 0, 0, 0, 0] = some #v[-1, 4294967295, 0, 0, 0, 0] := by decide

/-- V-B. -/
theorem test_borr :
    after (.borr 0 1 2) #v[-8, 7, 0, 0, 0, 0] = some #v[-8, 7, -1, 0, 0, 0] ∧
      after (.borr 0 1 2) #v[12, 10, 0, 0, 0, 0] = some #v[12, 10, 14, 0, 0, 0] := by decide

/-- V-B. -/
theorem test_bori :
    after (.bori 0 4294967295 1) #v[-4294967296, 0, 0, 0, 0, 0] = some #v[-4294967296, -1, 0, 0, 0, 0] ∧
      after (.bori 0 1 0) #v[-9223372036854775808, 0, 0, 0, 0, 0] = some #v[-9223372036854775807, 0, 0, 0, 0, 0] := by
  decide

/-- V-M. -/
theorem test_setr :
    after (.setr 1 0 2) #v[3, 5, 0, 0, 0, 0] = some #v[3, 5, 5, 0, 0, 0] ∧
      after (.setr 0 99 1) #v[-42, 0, 0, 0, 0, 0] = some #v[-42, -42, 0, 0, 0, 0] := by decide

/-- V-M. -/
theorem test_seti :
    after (.seti 4294967295 0 1) #v[0, 0, 0, 0, 0, 0] = some #v[0, 4294967295, 0, 0, 0, 0] ∧
      after (.seti 6 6 5) #v[0, 0, 0, 0, 0, 0] = some #v[0, 0, 0, 0, 0, 6] := by decide

/-- V-C. -/
theorem test_gtir :
    after (.gtir 7 1 2) #v[3, 5, 9, 0, 0, 0] = some #v[3, 5, 1, 0, 0, 0] ∧
      after (.gtir 0 0 1) #v[-1, 9, 0, 0, 0, 0] = some #v[-1, 1, 0, 0, 0, 0] := by decide

/-- V-C. -/
theorem test_gtri :
    after (.gtri 1 4 2) #v[3, 5, 9, 0, 0, 0] = some #v[3, 5, 1, 0, 0, 0] ∧
      after (.gtri 0 5 1) #v[-1, 9, 0, 0, 0, 0] = some #v[-1, 0, 0, 0, 0, 0] := by decide

/-- V-C. -/
theorem test_gtrr :
    after (.gtrr 1 0 2) #v[3, 5, 9, 0, 0, 0] = some #v[3, 5, 1, 0, 0, 0] ∧
      after (.gtrr 0 1 2) #v[-9223372036854775808, 9223372036854775807, 9, 0, 0, 0] =
        some #v[-9223372036854775808, 9223372036854775807, 0, 0, 0, 0] := by
  decide

/-- V-C. -/
theorem test_eqir :
    after (.eqir 4294967295 0 1) #v[-1, 9, 0, 0, 0, 0] = some #v[-1, 0, 0, 0, 0, 0] ∧
      after (.eqir 5 1 2) #v[3, 5, 9, 0, 0, 0] = some #v[3, 5, 1, 0, 0, 0] := by decide

/-- V-C. -/
theorem test_eqri :
    after (.eqri 0 3 2) #v[3, 5, 9, 0, 0, 0] = some #v[3, 5, 1, 0, 0, 0] ∧
      after (.eqri 0 0 0) #v[1, 0, 0, 0, 0, 0] = some #v[0, 0, 0, 0, 0, 0] := by decide

/-- V-C. -/
theorem test_eqrr :
    after (.eqrr 0 3 2) #v[3, 5, 9, 3, 0, 0] = some #v[3, 5, 1, 3, 0, 0] ∧
      after (.eqrr 0 0 1) #v[-5, 9, 0, 0, 0, 0] = some #v[-5, 1, 0, 0, 0, 0] := by decide

/-! The statement of each instruction: the index 5 completes, the index 6 faults in each field that is an index
(30_encoding.md R90, R92; the form of V-F). -/

theorem witness_AddrWritesWrappedSum :
    IsReg 5 ∧ ¬IsReg 6 ∧
      (after (.addr 5 5 5) #v[0, 0, 0, 0, 0, 4]).isSome ∧
      faultAfter (.addr 6 9 9) #v[0, 1, 2, 3, 4, 5] = some (⟨0, 6, .a⟩, #v[0, 1, 2, 3, 4, 5]) ∧
      faultAfter (.addr 5 6 9) #v[0, 1, 2, 3, 4, 5] = some (⟨0, 6, .b⟩, #v[0, 1, 2, 3, 4, 5]) ∧
      faultAfter (.addr 5 5 6) #v[0, 1, 2, 3, 4, 5] = some (⟨0, 6, .c⟩, #v[0, 1, 2, 3, 4, 5]) := by decide

theorem witness_AddiWritesWrappedSum :
    IsReg 5 ∧ ¬IsReg 6 ∧
      (after (.addi 5 5 5) #v[0, 0, 0, 0, 0, 4]).isSome ∧
      faultAfter (.addi 6 9 9) #v[0, 1, 2, 3, 4, 5] = some (⟨0, 6, .a⟩, #v[0, 1, 2, 3, 4, 5]) ∧
      faultAfter (.addi 5 9 6) #v[0, 1, 2, 3, 4, 5] = some (⟨0, 6, .c⟩, #v[0, 1, 2, 3, 4, 5]) := by decide

theorem witness_MulrWritesWrappedProduct :
    IsReg 5 ∧ ¬IsReg 6 ∧
      (after (.mulr 5 5 5) #v[0, 0, 0, 0, 0, 4]).isSome ∧
      faultAfter (.mulr 6 9 9) #v[0, 1, 2, 3, 4, 5] = some (⟨0, 6, .a⟩, #v[0, 1, 2, 3, 4, 5]) ∧
      faultAfter (.mulr 5 6 9) #v[0, 1, 2, 3, 4, 5] = some (⟨0, 6, .b⟩, #v[0, 1, 2, 3, 4, 5]) ∧
      faultAfter (.mulr 5 5 6) #v[0, 1, 2, 3, 4, 5] = some (⟨0, 6, .c⟩, #v[0, 1, 2, 3, 4, 5]) := by decide

theorem witness_MuliWritesWrappedProduct :
    IsReg 5 ∧ ¬IsReg 6 ∧
      (after (.muli 5 5 5) #v[0, 0, 0, 0, 0, 4]).isSome ∧
      faultAfter (.muli 6 9 9) #v[0, 1, 2, 3, 4, 5] = some (⟨0, 6, .a⟩, #v[0, 1, 2, 3, 4, 5]) ∧
      faultAfter (.muli 5 9 6) #v[0, 1, 2, 3, 4, 5] = some (⟨0, 6, .c⟩, #v[0, 1, 2, 3, 4, 5]) := by decide

theorem witness_BanrWritesBitwiseAnd :
    IsReg 5 ∧ ¬IsReg 6 ∧
      (after (.banr 5 5 5) #v[0, 0, 0, 0, 0, 4]).isSome ∧
      faultAfter (.banr 6 9 9) #v[0, 1, 2, 3, 4, 5] = some (⟨0, 6, .a⟩, #v[0, 1, 2, 3, 4, 5]) ∧
      faultAfter (.banr 5 6 9) #v[0, 1, 2, 3, 4, 5] = some (⟨0, 6, .b⟩, #v[0, 1, 2, 3, 4, 5]) ∧
      faultAfter (.banr 5 5 6) #v[0, 1, 2, 3, 4, 5] = some (⟨0, 6, .c⟩, #v[0, 1, 2, 3, 4, 5]) := by decide

theorem witness_BaniWritesBitwiseAnd :
    IsReg 5 ∧ ¬IsReg 6 ∧
      (after (.bani 5 5 5) #v[0, 0, 0, 0, 0, 4]).isSome ∧
      faultAfter (.bani 6 9 9) #v[0, 1, 2, 3, 4, 5] = some (⟨0, 6, .a⟩, #v[0, 1, 2, 3, 4, 5]) ∧
      faultAfter (.bani 5 9 6) #v[0, 1, 2, 3, 4, 5] = some (⟨0, 6, .c⟩, #v[0, 1, 2, 3, 4, 5]) := by decide

theorem witness_BorrWritesBitwiseOr :
    IsReg 5 ∧ ¬IsReg 6 ∧
      (after (.borr 5 5 5) #v[0, 0, 0, 0, 0, 4]).isSome ∧
      faultAfter (.borr 6 9 9) #v[0, 1, 2, 3, 4, 5] = some (⟨0, 6, .a⟩, #v[0, 1, 2, 3, 4, 5]) ∧
      faultAfter (.borr 5 6 9) #v[0, 1, 2, 3, 4, 5] = some (⟨0, 6, .b⟩, #v[0, 1, 2, 3, 4, 5]) ∧
      faultAfter (.borr 5 5 6) #v[0, 1, 2, 3, 4, 5] = some (⟨0, 6, .c⟩, #v[0, 1, 2, 3, 4, 5]) := by decide

theorem witness_BoriWritesBitwiseOr :
    IsReg 5 ∧ ¬IsReg 6 ∧
      (after (.bori 5 5 5) #v[0, 0, 0, 0, 0, 4]).isSome ∧
      faultAfter (.bori 6 9 9) #v[0, 1, 2, 3, 4, 5] = some (⟨0, 6, .a⟩, #v[0, 1, 2, 3, 4, 5]) ∧
      faultAfter (.bori 5 9 6) #v[0, 1, 2, 3, 4, 5] = some (⟨0, 6, .c⟩, #v[0, 1, 2, 3, 4, 5]) := by decide

theorem witness_SetrCopiesRegister :
    IsReg 5 ∧ ¬IsReg 6 ∧
      (after (.setr 5 5 5) #v[0, 0, 0, 0, 0, 4]).isSome ∧
      faultAfter (.setr 6 9 9) #v[0, 1, 2, 3, 4, 5] = some (⟨0, 6, .a⟩, #v[0, 1, 2, 3, 4, 5]) ∧
      faultAfter (.setr 5 9 6) #v[0, 1, 2, 3, 4, 5] = some (⟨0, 6, .c⟩, #v[0, 1, 2, 3, 4, 5]) := by decide

theorem witness_SetiWritesImmediate :
    IsReg 5 ∧ ¬IsReg 6 ∧
      (after (.seti 5 5 5) #v[0, 0, 0, 0, 0, 4]).isSome ∧
      faultAfter (.seti 9 9 6) #v[0, 1, 2, 3, 4, 5] = some (⟨0, 6, .c⟩, #v[0, 1, 2, 3, 4, 5]) := by decide

theorem witness_GtirWritesImmediateGreater :
    IsReg 5 ∧ ¬IsReg 6 ∧
      (after (.gtir 5 5 5) #v[0, 0, 0, 0, 0, 4]).isSome ∧
      faultAfter (.gtir 9 6 9) #v[0, 1, 2, 3, 4, 5] = some (⟨0, 6, .b⟩, #v[0, 1, 2, 3, 4, 5]) ∧
      faultAfter (.gtir 9 5 6) #v[0, 1, 2, 3, 4, 5] = some (⟨0, 6, .c⟩, #v[0, 1, 2, 3, 4, 5]) := by decide

theorem witness_GtriWritesRegisterGreater :
    IsReg 5 ∧ ¬IsReg 6 ∧
      (after (.gtri 5 5 5) #v[0, 0, 0, 0, 0, 4]).isSome ∧
      faultAfter (.gtri 6 9 9) #v[0, 1, 2, 3, 4, 5] = some (⟨0, 6, .a⟩, #v[0, 1, 2, 3, 4, 5]) ∧
      faultAfter (.gtri 5 9 6) #v[0, 1, 2, 3, 4, 5] = some (⟨0, 6, .c⟩, #v[0, 1, 2, 3, 4, 5]) := by decide

theorem witness_GtrrWritesSignedGreater :
    IsReg 5 ∧ ¬IsReg 6 ∧
      (after (.gtrr 5 5 5) #v[0, 0, 0, 0, 0, 4]).isSome ∧
      faultAfter (.gtrr 6 9 9) #v[0, 1, 2, 3, 4, 5] = some (⟨0, 6, .a⟩, #v[0, 1, 2, 3, 4, 5]) ∧
      faultAfter (.gtrr 5 6 9) #v[0, 1, 2, 3, 4, 5] = some (⟨0, 6, .b⟩, #v[0, 1, 2, 3, 4, 5]) ∧
      faultAfter (.gtrr 5 5 6) #v[0, 1, 2, 3, 4, 5] = some (⟨0, 6, .c⟩, #v[0, 1, 2, 3, 4, 5]) := by decide

theorem witness_EqirWritesImmediateEqual :
    IsReg 5 ∧ ¬IsReg 6 ∧
      (after (.eqir 5 5 5) #v[0, 0, 0, 0, 0, 4]).isSome ∧
      faultAfter (.eqir 9 6 9) #v[0, 1, 2, 3, 4, 5] = some (⟨0, 6, .b⟩, #v[0, 1, 2, 3, 4, 5]) ∧
      faultAfter (.eqir 9 5 6) #v[0, 1, 2, 3, 4, 5] = some (⟨0, 6, .c⟩, #v[0, 1, 2, 3, 4, 5]) := by decide

theorem witness_EqriWritesRegisterEqual :
    IsReg 5 ∧ ¬IsReg 6 ∧
      (after (.eqri 5 5 5) #v[0, 0, 0, 0, 0, 4]).isSome ∧
      faultAfter (.eqri 6 9 9) #v[0, 1, 2, 3, 4, 5] = some (⟨0, 6, .a⟩, #v[0, 1, 2, 3, 4, 5]) ∧
      faultAfter (.eqri 5 9 6) #v[0, 1, 2, 3, 4, 5] = some (⟨0, 6, .c⟩, #v[0, 1, 2, 3, 4, 5]) := by decide

theorem witness_EqrrWritesRegistersEqual :
    IsReg 5 ∧ ¬IsReg 6 ∧
      (after (.eqrr 5 5 5) #v[0, 0, 0, 0, 0, 4]).isSome ∧
      faultAfter (.eqrr 6 9 9) #v[0, 1, 2, 3, 4, 5] = some (⟨0, 6, .a⟩, #v[0, 1, 2, 3, 4, 5]) ∧
      faultAfter (.eqrr 5 6 9) #v[0, 1, 2, 3, 4, 5] = some (⟨0, 6, .b⟩, #v[0, 1, 2, 3, 4, 5]) ∧
      faultAfter (.eqrr 5 5 6) #v[0, 1, 2, 3, 4, 5] = some (⟨0, 6, .c⟩, #v[0, 1, 2, 3, 4, 5]) := by decide

/-- V-F: the first failing field is reported, an immediate is not checked, and index 5 is legal. -/
theorem test_index_faults :
    faultAfter (.eqrr 9 8 7) #v[0, 0, 0, 0, 0, 0] = some (⟨0, 9, .a⟩, #v[0, 0, 0, 0, 0, 0]) ∧
      faultAfter (.eqri 0 6 7) #v[0, 0, 0, 0, 0, 0] = some (⟨0, 7, .c⟩, #v[0, 0, 0, 0, 0, 0]) ∧
      faultAfter (.addi 4294967295 0 0) #v[0, 0, 0, 0, 0, 0] = some (⟨0, 4294967295, .a⟩, #v[0, 0, 0, 0, 0, 0]) ∧
      after (.addr 5 5 5) #v[0, 0, 0, 0, 0, 4] = some #v[0, 0, 0, 0, 0, 8] := by decide

/-! The programs of 95_test_vectors.md that the tests below run one step of. -/

/-- P1, W5: `seti 5 0 1`, `seti 6 0 2`. -/
def p1 : List InstrWord :=
  [0x00000009_00000005_00000000_00000001#128, 0x00000009_00000006_00000000_00000002#128]

/-- V-E10: `addr 7 8 9`. -/
def badAddr : List InstrWord := [0x00000000_00000007_00000008_00000009#128]

/-- V-E9: opcode 16 with fields 9. -/
def unknown16 : List InstrWord := [0x00000010_00000009_00000009_00000009#128]

/-- W4, V-E4: `seti 0 0 4`. -/
def w4 : List InstrWord := [0x00000009_00000000_00000000_00000004#128]

/-- V-E5, V-E7: `setr 1 0 4`. -/
def loop1 : List InstrWord := [0x00000008_00000001_00000000_00000004#128]

/-- P1 at its start. -/
def p1Start : State := running p1 0 #v[0, 0, 0, 0, 0, 0] 0 0

/-- P1 before step 2. -/
def p1Mid : State := running p1 0 #v[0, 5, 0, 0, 0, 0] 1 1

/-- P1 before cycle 3. -/
def p1End : State := running p1 0 #v[1, 5, 6, 0, 0, 0] 2 2

/-! The cycle: engine vectors of 95_test_vectors.md. -/

/-- P1, the three cycles of its trace. -/
theorem test_p1_cycles :
    seenAfterStep p1Start = some ⟨.running, #v[0, 5, 0, 0, 0, 0], 1, 1⟩ ∧
      seenAfterStep p1Mid = some ⟨.running, #v[1, 5, 6, 0, 0, 0], 2, 2⟩ ∧
      seenAfterStep p1End = some ⟨.halted, #v[2, 5, 6, 0, 0, 0], 2, 2⟩ := by decide

/-- V-E1 and V-E2: the mirror write precedes the bounds test. -/
theorem test_halt_before_any_step :
    seenAfterStep (running [] 2 #v[0, 0, 0, 0, 0, 0] 0 0) = some ⟨.halted, #v[0, 0, 0, 0, 0, 0], 0, 0⟩ ∧
      seenAfterStep (running [0x00000009_00000001_00000000_00000001#128] 3 #v[0, 0, 0, 0, 0, 0] (-7) 0) =
        some ⟨.halted, #v[0, 0, 0, -7, 0, 0], -7, 0⟩ := by decide

/-- W4, V-E4: the program of one jump halts in its second cycle. -/
theorem test_terminal_scenario :
    seenAfterStep (running w4 4 #v[0, 0, 0, 0, 0, 0] 0 0) = some ⟨.running, #v[0, 0, 0, 0, 0, 0], 1, 1⟩ ∧
      seenAfterStep (running w4 4 #v[0, 0, 0, 0, 0, 0] 1 1) = some ⟨.halted, #v[0, 0, 0, 0, 1, 0], 1, 1⟩ := by
  decide

/-- V-E5: the loop of one instruction stops at exactly step 10. -/
theorem test_bound_is_exact :
    seenAfterStep { running loop1 4 #v[0, -1, 0, 0, -1, 0] 0 9 with maxStepsEn := true, maxSteps := 10 } =
        some ⟨.running, #v[0, -1, 0, 0, -1, 0], 0, 10⟩ ∧
      seenAfterStep { running loop1 4 #v[0, -1, 0, 0, -1, 0] 0 10 with maxStepsEn := true, maxSteps := 10 } =
        some ⟨.stepBound, #v[0, -1, 0, 0, 0, 0], 0, 10⟩ := by decide

/-- V-E6, V-E6b, V-E6c: the bounds 1, 0 and 2 on P1; HALTED wins over STEP_BOUND. -/
theorem test_bounds_on_p1 :
    seenAfterStep { p1Mid with maxStepsEn := true, maxSteps := 1 } =
        some ⟨.stepBound, #v[1, 5, 0, 0, 0, 0], 1, 1⟩ ∧
      seenAfterStep { p1Start with maxStepsEn := true, maxSteps := 0 } =
        some ⟨.stepBound, #v[0, 0, 0, 0, 0, 0], 0, 0⟩ ∧
      seenAfterStep { p1End with maxStepsEn := true, maxSteps := 2 } =
        some ⟨.halted, #v[2, 5, 6, 0, 0, 0], 2, 2⟩ := by decide

/-- V-E7: the latch wraps, and the next cycle halts. -/
theorem test_latch_wraps :
    seenAfterStep (running loop1 4 #v[0, 9223372036854775807, 0, 0, 0, 0] 0 0) =
        some ⟨.running, #v[0, 9223372036854775807, 0, 0, 9223372036854775807, 0], -9223372036854775808, 1⟩ ∧
      seenAfterStep
          (running loop1 4 #v[0, 9223372036854775807, 0, 0, 9223372036854775807, 0] (-9223372036854775808) 1) =
        some ⟨.halted, #v[0, 9223372036854775807, 0, 0, -9223372036854775808, 0], -9223372036854775808, 1⟩ := by
  decide

/-- V-E9: the unknown opcode is a counted step with a warning. -/
theorem test_unknown_opcode :
    seenAfterStep (running unknown16 0 #v[0, 0, 0, 0, 0, 0] 0 0) = some ⟨.running, #v[0, 0, 0, 0, 0, 0], 1, 1⟩ ∧
      (nextOf (step (running unknown16 0 #v[0, 0, 0, 0, 0, 0] 0 0))).map
          (fun t => (t.unkF, t.unkCnt, t.unkPc, t.unkOp, t.events)) =
        some (true, 1, 0, 16, [.warn 0 16]) := by decide

/-- V-E10: the index fault, and the record the host reads out. -/
theorem test_index_fault_stops_the_run :
    seenAfterStep (running badAddr 5 #v[0, 0, 0, 0, 0, 0] 0 0) = some ⟨.faultRegIdx, #v[0, 0, 0, 0, 0, 0], 0, 0⟩ ∧
      ((nextOf (step (running badAddr 5 #v[0, 0, 0, 0, 0, 0] 0 0))).bind State.readOut).bind ReadOut.fault =
        some ⟨0, 7, .a⟩ := by decide

/-- V-E13, V-E13b: CANCEL stops before the fetch, and HALTED wins over CANCELLED. -/
theorem test_cancel :
    seenAfterStep { p1Start with cancel := true } = some ⟨.cancelled, #v[0, 0, 0, 0, 0, 0], 0, 0⟩ ∧
      seenAfterStep { p1End with cancel := true } = some ⟨.halted, #v[2, 5, 6, 0, 0, 0], 2, 2⟩ := by decide

/-- The program of V-E14: `seti 0 0 0`, `seti 0 0 4`, in its loop at index 1 with the given count. -/
def p4 (steps : Word) : State :=
  { running [0x00000009_00000000_00000000_00000000#128, 0x00000009_00000000_00000000_00000004#128] 4
      #v[0, 0, 0, 0, 0, 0] 1 steps with progressN := 4, maxStepsEn := true, maxSteps := 10 }

/-- V-E14: the event at `STEPS = 4`, none at 5. -/
theorem test_progress_event :
    (nextOf (step (p4 3))).map State.events = some [.progress 4 #v[0, 0, 0, 0, 0, 0] 1] ∧
      (nextOf (step (p4 4))).map State.events = some [] := by decide

/-- V-E15, V-E16: a comparison whose destination is the instruction-pointer register jumps. -/
theorem test_comparison_jumps :
    seenAfterStep (running [0x0000000C_00000001_00000001_00000003#128] 3 #v[0, 0, 0, 0, 0, 0] 0 0) =
        some ⟨.running, #v[0, 0, 0, 0, 0, 0], 1, 1⟩ ∧
      seenAfterStep (running [0x0000000F_00000001_00000001_00000003#128] 3 #v[0, 0, 0, 0, 0, 0] 0 0) =
        some ⟨.running, #v[0, 0, 0, 1, 0, 0], 2, 1⟩ := by decide

/-! The host interface. -/

/-- V-E12: START with the binding 6 takes the fault. -/
theorem test_start_bad_binding :
    seenAfterStep { State.reset with program := p1, ipsel := 6, loaded := true, hostScript := [.start none none] } =
        some ⟨.faultRegIdx, #v[0, 0, 0, 0, 0, 0], 0, 0⟩ ∧
      (nextOf (step
          { State.reset with program := p1, ipsel := 6, loaded := true, hostScript := [.start none none] })).map
          (fun t => (t.faultFld.code, t.faultIdx, t.faultPc)) = some (3, 6, 0) := by decide

/-- V-E6d: START with the snapshot of a bounded run. -/
theorem test_start_with_snapshot :
    seenAfterStep
        { State.reset with
          program := p1
          loaded := true
          hostScript := [.start (some #v[1, 5, 0, 0, 0, 0]) (some 1)] } =
      some ⟨.running, #v[1, 5, 0, 0, 0, 0], 1, 0⟩ := by decide

/-- 93 U11, U16: LOAD and START are refused while RUNNING, and START before any LOAD. -/
theorem test_refused_moves :
    refusalOf (step { p1Mid with hostScript := [.load ⟨0, p1, none, none⟩] }) = some .loadWhileRunning ∧
      refusalOf (step { p1Mid with hostScript := [.start none none] }) = some .startWhileRunning ∧
      refusalOf (step { State.reset with hostScript := [.start none none] }) = some .startBeforeLoad := by decide

/-- Step 1 of P1: its word, placed in the machine after reset, runs as the next step. -/
theorem test_withFetchWord :
    seenAfterStep (State.reset.withFetchWord 128 0x00000009_00000005_00000000_00000001) =
      some ⟨.running, #v[0, 5, 0, 0, 0, 0], 1, 1⟩ := by decide

/-- P1: its text assembles to its words. -/
theorem test_assemble_p1 : assemble [.ip 0, .instr "seti" 5 0 1, .instr "seti" 6 0 2] = some (0, p1) := by decide

/-- 30_encoding.md R98, R101: an unknown mnemonic is rejected, an index above 5 is not; a numeral above 4294967295 is
rejected by the model's choice (log entry 18). -/
theorem test_assembler_rejects :
    assembleLine (.instr "adda" 0 0 0) = none ∧ assembleLine (.instr "seti" 4294967296 0 0) = none ∧
      assembleLine (.instr "addr" 7 8 9) = some 0x00000000_00000007_00000008_00000009#128 := by decide

/-- P1 with host moves still pending: the waiting host's step is step 2 of its trace, and the moves stay. -/
theorem test_wait_with_moves_pending :
    seenAfterStep { p1Mid with hostScript := [.wait, .reset] } = some ⟨.running, #v[1, 5, 6, 0, 0, 0], 2, 2⟩ ∧
      (nextOf (step { p1Mid with hostScript := [.wait, .reset] })).map State.hostScript = some [.reset] := by decide

/-! Witnesses: the hypotheses of each statement, met together. -/

theorem witness_EveryWordIsClassified :
    ((0x0000000F_00000005_00000005_00000005#128).extractLsb' 96 32).toNat ≤ 15 ∧
      (Instr.eqrr 5 5 5).wellFormed = true ∧ (Instr.eqrr 6 5 5).wellFormed = false ∧
      15 < ((0x00000010_00000000_00000000_00000000#128).extractLsb' 96 32).toNat := by decide

/-- A row of the opcode map, and the largest numeral that fits. -/
theorem witness_AssembledLineIsTheEncodedInstruction :
    ("eqrr", 0x0000000F#32) ∈
        [("addr", 0x00000000#32), ("addi", 0x00000001#32), ("mulr", 0x00000002#32), ("muli", 0x00000003#32),
          ("banr", 0x00000004#32), ("bani", 0x00000005#32), ("borr", 0x00000006#32), ("bori", 0x00000007#32),
          ("setr", 0x00000008#32), ("seti", 0x00000009#32), ("gtir", 0x0000000A#32), ("gtri", 0x0000000B#32),
          ("gtrr", 0x0000000C#32), ("eqir", 0x0000000D#32), ("eqri", 0x0000000E#32), ("eqrr", 0x0000000F#32)] ∧
      4294967295 < 2 ^ 32 ∧
      assembleLine (.instr "eqrr" 4294967295 0 6) = some 0x0000000F_FFFFFFFF_00000000_00000006#128 := by decide

theorem witness_InstructionWritesOnlyItsDestination :
    (Instr.addr 5 5 5).wellFormed = true ∧ IsReg 4 ∧ (4 : Field) ≠ (Instr.addr 5 5 5).dest := by decide

theorem witness_FirstBadIndexIsReported :
    (Instr.eqrr 9 8 7).firstBadIndex = some (.a, 9) ∧ (Instr.eqrr 5 6 7).firstBadIndex = some (.b, 6) ∧
      (Instr.seti 6 6 6).firstBadIndex = some (.c, 6) := by decide

theorem witness_IgnoredFieldHasNoEffect : IsReg 5 ∧ (Instr.setr 5 6 5).wellFormed = true := by decide

/-- Sums at the ends of the range and a product past it. -/
theorem witness_ArithmeticIsLowBitsOfExactResult :
    IsReg 0 ∧ IsReg 5 ∧
      ((withRegs #v[9223372036854775806, 0, 0, 0, 0, 1]).x 0).toInt +
        ((withRegs #v[9223372036854775806, 0, 0, 0, 0, 1]).x 5).toInt = 2 ^ 63 - 1 ∧
      ((withRegs #v[-9223372036854775807, 0, 0, 0, 0, -1]).x 0).toInt +
        ((withRegs #v[-9223372036854775807, 0, 0, 0, 0, -1]).x 5).toInt = -2 ^ 63 ∧
      ((withRegs #v[-9223372036854775808, 0, 0, 0, 0, -1]).x 0).toInt *
        ((withRegs #v[-9223372036854775808, 0, 0, 0, 0, -1]).x 5).toInt = 2 ^ 63 := by decide

theorem witness_BitwiseResultsBitByBit : IsReg 5 ∧ IsReg 0 ∧ ¬IsReg 6 := by decide

theorem witness_ComparisonWritesZeroOrOne :
    (Instr.gtir 6 5 5).wellFormed = true ∧ (Instr.gtri 5 6 5).wellFormed = true ∧
      (Instr.gtrr 5 5 5).wellFormed = true ∧
      (Instr.eqir 6 5 5).wellFormed = true ∧ (Instr.eqri 5 6 5).wellFormed = true ∧
      (Instr.eqrr 5 5 5).wellFormed = true := by decide

/-- The last index of the program, one step below the bound. -/
theorem witness_StepRunsTheDecodedInstruction :
    Steppable { p1Mid with maxStepsEn := true, maxSteps := 2 } ∧
      p1Mid.program[p1Mid.pc.toNat]? = some 0x00000009_00000006_00000000_00000002#128 ∧
      decode 0x00000009_00000006_00000000_00000002#128 = .instr (.seti 6 0 2) := by decide

/-- The first index of the program, one step below the counter's own limit. -/
theorem witness_WellFormedStepCompletes :
    Steppable { p1Start with steps := 18446744073709551614 } ∧
      p1Start.program[p1Start.pc.toNat]? = some 0x00000009_00000005_00000000_00000001#128 ∧
      decode 0x00000009_00000005_00000000_00000001#128 = .instr (.seti 5 0 1) ∧
      (Instr.seti 5 0 1).wellFormed = true := by decide

theorem witness_EveryCycleMirrorsPc :
    EngineRuns p1Start ∧ (nextOf (step p1Start)).isSome = true ∧
      EngineRuns { p1Start with ipsel := 5 } ∧ (nextOf (step { p1Start with ipsel := 5 })).isSome = true := by decide

/-- `pc` one past the end, and the largest negative `pc`. -/
theorem witness_LeavingTheProgramHalts :
    EngineRuns p1End ∧ ¬PcInside p1End ∧ ¬PcInside { p1End with pc := -1 } ∧ PcInside p1Mid := by decide

theorem witness_CancelStopsTheRun :
    EngineRuns { p1Mid with cancel := true } ∧ PcInside { p1Mid with cancel := true } := by decide

/-- The bound reached exactly, the counter's own limit, a bound not reached, and a state outside the program. -/
theorem witness_ReachedBoundStopsTheRun :
    (EngineRuns { p1Mid with maxStepsEn := true, maxSteps := 1 } ∧ PcInside p1Mid ∧ p1Mid.cancel = false ∧
        BoundReached { p1Mid with maxStepsEn := true, maxSteps := 1 }) ∧
      BoundReached { p1Mid with steps := 18446744073709551615 } ∧
      ¬BoundReached { p1Mid with maxStepsEn := true, maxSteps := 2 } ∧ ¬BoundReached p1Mid ∧
      ¬PcInside p1End := by decide

/-- A running state that meets the invariant and whose bound is reached. -/
theorem witness_invariant_at_the_bound : Inv { p1Mid with maxStepsEn := true, maxSteps := 1 } := by
  constructor <;> decide

/-- One state for each of the six conditions. -/
theorem witness_OneConditionPerCycleInOrder :
    EngineRuns { p1End with cancel := true } ∧ ¬PcInside { p1End with cancel := true } ∧
      BoundReached { p1Mid with cancel := true, maxStepsEn := true, maxSteps := 1 } ∧
      Steppable (running unknown16 0 #v[0, 0, 0, 0, 0, 0] 0 0) ∧
      Steppable (running badAddr 5 #v[0, 0, 0, 0, 0, 0] 0 0) ∧ (Instr.addr 7 8 9).firstBadIndex = some (.a, 7) ∧
      5 < (6 : IpSel).toNat := by decide

theorem witness_UnknownOpcodeWarnsAndGoesOn :
    Steppable (running unknown16 0 #v[0, 0, 0, 0, 0, 0] 0 0) ∧
      unknown16[0]? = some 0x00000010_00000009_00000009_00000009#128 ∧
      15 < ((0x00000010_00000009_00000009_00000009#128).extractLsb' 96 32).toNat := by decide

theorem witness_BadIndexStopsTheRunPrecisely :
    Steppable (running badAddr 5 #v[0, 0, 0, 0, 0, 0] 0 0) ∧
      badAddr[0]? = some 0x00000000_00000007_00000008_00000009#128 ∧
      decode 0x00000000_00000007_00000008_00000009#128 = .instr (.addr 7 8 9) ∧
      (Instr.addr 7 8 9).firstBadIndex = some (.a, 7) ∧ (Instr.seti 6 0 2).firstBadIndex = none := by decide

/-- P1's second instruction writes register 2; the binding is register 0. -/
theorem witness_StepNotWritingIpGoesToNextIndex :
    Steppable p1Mid ∧ (Instr.seti 6 0 2).wellFormed = true ∧ (Instr.seti 6 0 2).dest ≠ p1Mid.ipField ∧
      Steppable (running unknown16 0 #v[0, 0, 0, 0, 0, 0] 0 0) ∧
      decode 0x00000010_00000009_00000009_00000009#128 = .unknownOpcode 16 := by decide

theorem witness_WritingIpJumpsToWrittenValuePlusOne :
    Steppable (running w4 4 #v[0, 0, 0, 0, 0, 0] 0 0) ∧ w4[0]? = some 0x00000009_00000000_00000000_00000004#128 ∧
      decode 0x00000009_00000000_00000000_00000004#128 = .instr (.seti 0 0 4) ∧
      (Instr.seti 0 0 4).dest = (running w4 4 #v[0, 0, 0, 0, 0, 0] 0 0).ipField := by decide

/-- `addr 4 5 5` and `addr 4 4 4` with the binding 4: the other operand is another register, and it is the binding's. -/
theorem witness_ReadingIpGivesOwnIndex :
    Steppable (running [0x00000000_00000004_00000005_00000005#128] 4 #v[0, 0, 0, 0, 7, 9] 0 0) ∧
      decode 0x00000000_00000004_00000005_00000005#128 = .instr (.addr 4 5 5) ∧
      Steppable (running [0x00000000_00000004_00000004_00000004#128] 4 #v[0, 0, 0, 0, 7, 9] 0 0) ∧
      decode 0x00000000_00000004_00000004_00000004#128 = .instr (.addr 4 4 4) ∧
      (running [] 4 #v[0, 0, 0, 0, 7, 9] 0 0).ipField = 4 ∧ IsReg 4 ∧ IsReg 5 := by decide

/-- The register 5 holding `v`, the binding 4, and one instruction. -/
def jumper (w : InstrWord) (v : Word) : State := running [w] 4 #v[0, 0, 0, 0, 0, v] 0 0

/-- The five forms, each in a state whose cycle runs it. -/
theorem witness_JumpFormsReachTheirTargets :
    (Steppable (jumper 0x00000009_FFFFFFFF_00000005_00000004#128 1) ∧
        decode 0x00000009_FFFFFFFF_00000005_00000004#128 = .instr (.seti 4294967295 5 4)) ∧
      (Steppable (jumper 0x00000008_00000005_00000000_00000004#128 1) ∧
        decode 0x00000008_00000005_00000000_00000004#128 = .instr (.setr 5 0 4)) ∧
      (Steppable (jumper 0x00000001_00000004_FFFFFFFF_00000004#128 1) ∧
        decode 0x00000001_00000004_FFFFFFFF_00000004#128 = .instr (.addi 4 4294967295 4)) := by decide

theorem witness_relative_jump_and_skip :
    (Steppable (jumper 0x00000000_00000004_00000005_00000004#128 1) ∧
        decode 0x00000000_00000004_00000005_00000004#128 = .instr (.addr 4 5 4)) ∧
      (Steppable (jumper 0x00000000_00000005_00000004_00000004#128 1) ∧
        decode 0x00000000_00000005_00000004_00000004#128 = .instr (.addr 5 4 4)) := by decide

/-- The register is not the binding's, and the skip's condition is 1 or 0. -/
theorem witness_jump_operands :
    IsReg 5 ∧ (jumper 0 0).ipField = 4 ∧ (5 : Field) ≠ 4 ∧ (jumper 0 1).x 5 = 1 ∧ (jumper 0 0).x 5 = 0 := by
  decide

/-- The state of V-E7. -/
theorem witness_LatchAtTopOfRangeLeadsToHalt :
    Steppable (running loop1 4 #v[0, 9223372036854775807, 0, 0, 0, 0] 0 0) ∧
      decode 0x00000008_00000001_00000000_00000004#128 = .instr (.setr 1 0 4) ∧
      (nextOf (exec (.setr 1 0 4) (running loop1 4 #v[0, 9223372036854775807, 0, 0, 0, 0] 0 0).mirrored)).map
        (fun u => (u.x u.ipField).toInt) = some (2 ^ 63 - 1) := by decide

/-- A counted step and a stopping cycle. -/
theorem witness_StepsCountsCompletedSteps :
    EngineRuns p1Mid ∧ (nextOf (step p1Mid)).map State.status = some .running ∧
      EngineRuns p1End ∧ (nextOf (step p1End)).map State.status = some .halted := by decide

theorem witness_ProgressEventAtMultiplesOfInterval :
    Steppable (p4 3) ∧ Steppable (p4 4) ∧ (p4 3).program[1]? = some 0x00000009_00000000_00000000_00000004#128 ∧
      (Instr.seti 0 0 4).wellFormed = true ∧
      Steppable { running unknown16 0 #v[0, 0, 0, 0, 0, 0] 0 0 with progressN := 1 } ∧
      decode 0x00000010_00000009_00000009_00000009#128 = .unknownOpcode 16 := by decide

/-- Register 1 changes as a destination, register 0 by the mirror write, a stopped machine waits, and the host's two moves
answer a next state. -/
theorem witness_RegisterFileHasTwoWriters :
    EngineRuns p1Start ∧ (nextOf (step p1Start)).map (fun t => decide (t.x 1 ≠ p1Start.x 1)) = some true ∧
      EngineRuns p1End ∧ (nextOf (step p1End)).map (fun t => decide (t.x 0 ≠ p1End.x 0)) = some true ∧
      (nextOf (step { p1End with status := .halted, hostScript := [.wait, .reset] })).isSome = true ∧
      (nextOf (step { State.reset with hostScript := [.load ⟨0, p1, none, none⟩] })).isSome = true ∧
      (nextOf (step { p1Mid with hostScript := [.setCancel true] })).isSome = true := by decide

theorem witness_RunKeepsProgramAndParameters :
    p1Mid.status = .running ∧ p1Mid.hostScript.head? ≠ some .reset ∧ (nextOf (step p1Mid)).isSome = true ∧
      ({ p1Mid with hostScript := [.setCancel true, .reset] } : State).hostScript.head? ≠ some .reset ∧
      ({ p1Mid with hostScript := [.load ⟨0, [], none, none⟩] } : State).status = .running := by decide

/-- A step with both events. -/
theorem witness_EventsAreOnlyAppended :
    ((nextOf (step { running unknown16 0 #v[0, 0, 0, 0, 0, 0] 0 0 with progressN := 1 })).map State.events) =
      some [.warn 0 16, .progress 1 #v[0, 0, 0, 0, 0, 0] 1] := by decide

theorem witness_ResetValues : IsReg 0 ∧ IsReg 5 := by decide

/-- A running state with the host's reset next, and, with no move left, the machine after reset and a stopped one. -/
theorem witness_ResetMoveGivesResetValues :
    ({ p1Mid with hostScript := [.reset, .wait] } : State).hostScript = .reset :: [.wait] ∧ IsReg 5 ∧
      State.reset.status ≠ .running ∧ State.reset.hostScript = [] ∧
      ({ p1End with status := .halted } : State).status ≠ .running := by decide

theorem witness_StoppedMachineStaysAsItIs :
    2 ≤ ({ p1End with status := .halted } : State).status.code.toNat ∧
      2 ≤ ({ p1End with status := .cancelled } : State).status.code.toNat ∧ p1End.hostScript = [] := by decide

/-- A LOAD while RUNNING, and one of a legal program. -/
theorem witness_LoadWritesProgramAndParameters :
    ({ p1Mid with hostScript := [.load ⟨7, p1, some 0, none⟩] } : State).status = .running ∧
      ({ State.reset with hostScript := [.load ⟨7, p1, some 0, none⟩] } : State).status ≠ .running ∧
      p1.length ≤ Config.imemDepth ∧ (⟨7, p1, some 0, none⟩ : LoadArgs).maxSteps = some 0 := by decide

/-- The shortest program that does not fit. -/
theorem witness_program_too_long : Config.imemDepth < (List.replicate (2 ^ 63) (0 : InstrWord)).length := by
  rw [List.length_replicate]; decide

/-- A START while RUNNING, one before any LOAD, and two after a LOAD, with the bindings 5 and 6. -/
theorem witness_StartInitialisesAndRuns :
    p1Mid.status = .running ∧ (State.reset.status ≠ .running ∧ State.reset.loaded = false) ∧
      (({ State.reset with loaded := true, ipsel := 5 } : State).loaded = true ∧ (5 : IpSel).toNat ≤ 5) ∧
      (({ State.reset with loaded := true, ipsel := 6 } : State).loaded = true ∧ 5 < (6 : IpSel).toNat) := by decide

theorem witness_HostWaitCancelLineAndRefusals :
    ({ p1Mid with hostScript := [.wait, .reset] } : State).hostScript = .wait :: [.reset] ∧
      ({ p1Mid with hostScript := [.setCancel true, .wait] } : State).hostScript = .setCancel true :: [.wait] ∧
      p1Mid.status = .running ∧ State.reset.status ≠ .running ∧ State.reset.loaded = false := by decide

theorem witness_ReadOutOfStoppedRun :
    p1Mid.readOut = none ∧ (State.readOut { p1End with status := .halted }).isSome = true := by decide

/-- The largest word, an unknown opcode, and the largest of an instruction. -/
theorem witness_PlacedWordIsFetchedNext :
    2 ^ 128 - 1 < 2 ^ 128 ∧ decode (BitVec.ofNat 128 (2 ^ 128 - 1)) = .unknownOpcode 4294967295 ∧
      decode (BitVec.ofNat 128 (2 ^ 100 - 1)) = .instr (.eqrr 4294967295 4294967295 4294967295) := by decide

/-- A running state, a halted one and a faulted one that meet the invariant, each answering a next state. -/
theorem witness_EveryStepKeepsTheInvariant : Inv p1Mid ∧ (nextOf (step p1Mid)).isSome = true :=
  ⟨by constructor <;> decide, by decide⟩

theorem witness_invariant_halted : Inv { p1End with status := .halted, regs := #v[2, 5, 6, 0, 0, 0] } := by
  constructor <;> decide

theorem witness_invariant_faulted :
    Inv { running badAddr 5 #v[0, 0, 0, 0, 0, 0] 0 0 with status := .faultRegIdx, faultIdx := 7 } := by
  constructor <;> decide

theorem witness_NoStepFaults : Inv p1Start ∧ p1Start.hostScript = [] := ⟨by constructor <;> decide, by decide⟩

/-- Two machines given the same load, left differently by their earlier runs. -/
theorem witness_StartForgetsEarlierRuns :
    SameLoad { p1End with status := .halted } { p1Start with status := .cancelled, faultIdx := 9, unkF := true } ∧
      ({ p1End with status := .halted } : State).status ≠ .running ∧
      ({ p1Start with status := .cancelled } : State).status ≠ .running :=
  ⟨by constructor <;> rfl, by decide, by decide⟩

/-- P1 cancelled and P1 bounded after one step. -/
theorem witness_ResumedRunContinuesTheComputation :
    Inv { p1Mid with status := .cancelled, regs := #v[1, 5, 0, 0, 0, 0] } ∧
      Inv { p1Mid with status := .stepBound, regs := #v[1, 5, 0, 0, 0, 0], maxStepsEn := true, maxSteps := 1 } ∧
      p1Mid.steps.toNat + 18446744073709551613 < 2 ^ 64 - 1 :=
  ⟨by constructor <;> decide, by constructor <;> decide, by
    have h : p1Mid.steps.toNat = 1 := by decide
    omega⟩

end Sys2Proof.Tests
end

/-! The register file's two writers, the values of reset, and the rest of a stopped machine (10_state.md R23, R40, R32). -/

namespace Sys2Proof.Machine

/-- The mirror write of phase 1 is the engine's first writer (45_cycle_and_control_flow.md R172): a register it changes is
`x[IPSEL]`, which then holds `pc`. -/
theorem mirrored_x_changed {s : State} {f : Field} (hf : IsReg f) (h : s.mirrored.x f ≠ s.x f) :
    f = s.ipField ∧ s.mirrored.x f = s.pc := by
  have hip : f = s.ipField := by
    by_contra hne
    exact h (x_withX_other s s.pc hne)
  subst hip
  exact ⟨rfl, x_withX_same s s.pc hf⟩

/-- Where a cycle leaves a register as the mirror write left it, only the mirror write can have changed it. -/
theorem x_changed_of_eq_mirrored {s t : State} {f : Field} (hf : IsReg f) (ht : t.x f = s.mirrored.x f)
    (h : t.x f ≠ s.x f) : f = s.ipField ∧ t.x f = s.pc := by
  rw [ht] at h ⊢
  exact mirrored_x_changed hf h

/-- The write-back of phase 9 is the engine's second writer (45_cycle_and_control_flow.md R180). -/
theorem engine_step_x_changed {s t : State} (hrun : EngineRuns s) (hstep : step s = .next t) {f : Field}
    (hf : IsReg f) (hne : t.x f ≠ s.x f) :
    (f = s.ipField ∧ t.x f = s.pc) ∨
      (t.status = .running ∧ ∃ w i, s.program[s.pc.toNat]? = some w ∧ decode w = .instr i ∧ f = i.dest) := by
  rcases step_cases hrun hstep with
    ⟨st, -, rfl⟩ | ⟨-, w, hw, ⟨op, -, rfl⟩ | ⟨i, hi, ⟨v, -, rfl⟩ | ⟨fld, idx, -, rfl⟩⟩⟩
  case inl => exact .inl (x_changed_of_eq_mirrored hf rfl hne)
  case inr.inl => exact .inl (x_changed_of_eq_mirrored hf rfl hne)
  case inr.inr.inl =>
    by_cases hd : f = i.dest
    · exact .inr ⟨hrun.1, w, i, hw, hi, hd⟩
    · exact .inl (x_changed_of_eq_mirrored hf (x_withX_other s.mirrored v hd) hne)
  case inr.inr.inr => exact .inl (x_changed_of_eq_mirrored hf rfl hne)

/-- A LOAD that is performed writes what `loadProgram` writes. -/
theorem hostLoad_next {l : LoadArgs} {s t : State} (h : hostLoad l s = .next t) : t = s.loadProgram l := by
  simp only [hostLoad] at h
  split_ifs at h
  cases h
  rfl

/-- LOAD writes no register, in any state. -/
theorem step_load_regs {s t : State} {l : LoadArgs} {rest : List HostMove} (hscript : s.hostScript = .load l :: rest)
    (hstep : step s = .next t) : t.regs = s.regs := by
  rw [step_host hscript] at hstep
  rw [hostLoad_next hstep]
  rfl

/-- The CANCEL line's move writes no register, in any state. -/
theorem step_setCancel_regs {s t : State} {b : Bool} {rest : List HostMove}
    (hscript : s.hostScript = .setCancel b :: rest) (hstep : step s = .next t) : t.regs = s.regs := by
  rw [step_host hscript] at hstep
  cases hstep
  rfl

/-- Between runs the engine's turn writes no register, whatever moves of the host follow. -/
theorem engineTurn_regs_of_not_running {s t : State} (hst : s.status ≠ .running) (h : engineTurn s = .next t) :
    t.regs = s.regs := by
  rw [engineTurn_still hst] at h
  cases h
  rfl

/-- Between runs only START and RESET write registers. -/
theorem step_regs_of_not_running {s t : State} (hst : s.status ≠ .running) (hreset : s.hostScript.head? ≠ some .reset)
    (hstart : ∀ r p, s.hostScript.head? ≠ some (.start r p)) (hstep : step s = .next t) : t.regs = s.regs := by
  cases hscript : s.hostScript with
  | nil =>
    rw [step_engine hscript] at hstep
    exact engineTurn_regs_of_not_running hst hstep
  | cons m rest =>
    rw [hscript] at hreset hstart
    cases m with
    | wait =>
      rw [step_host hscript] at hstep
      exact engineTurn_regs_of_not_running (s := s.afterMove rest) hst hstep
    | reset => exact absurd rfl hreset
    | load l => exact step_load_regs hscript hstep
    | start r p => exact absurd rfl (hstart r p)
    | setCancel b => exact step_setCancel_regs hscript hstep

/-- Settles O44: a cycle writes registers by the mirror write and the write-back alone, and of the host's moves only START
and RESET write them. -/
theorem registerFileHasTwoWriters : Obligations.RegisterFileHasTwoWriters := by
  refine ⟨?engine, ?between, ?loadOrCancel⟩
  case engine => exact fun s t hrun hstep f hf hne => engine_step_x_changed hrun hstep hf hne
  case between => exact fun s t hst hreset hstart hstep => step_regs_of_not_running hst hreset hstart hstep
  case loadOrCancel =>
    rintro s t l b rest (hscript | hscript) hstep
    · exact step_load_regs hscript hstep
    · exact step_setCancel_regs hscript hstep

/-- While the machine is not RUNNING and the host makes no move, a step changes nothing (10_state.md R32). -/
theorem step_still {s : State} (hst : s.status ≠ .running) (hscript : s.hostScript = []) : step s = .next s := by
  rw [step_engine hscript, engineTurn_still hst]

/-- A run stays in a state that the step leaves as it is. -/
theorem core_run_of_step_self {s : State} (h : step s = .next s) (k : Nat) : core.run k s = .next s := by
  induction k with
  | zero => rfl
  | succ k ih => exact (core_run_next k h).trans ih

/-- Settles O49: the codes by computation, and a stopped machine at rest by induction on the number of steps. -/
theorem stoppedMachineStaysAsItIs : Obligations.StoppedMachineStaysAsItIs := by
  refine ⟨by decide, ?codes, ?rest⟩
  case codes => intro st; cases st <;> decide
  case rest =>
    intro s k hcode hscript
    have hst : s.status ≠ .running := by
      intro hrun
      rw [hrun] at hcode
      exact absurd hcode (by decide)
    exact core_run_of_step_self (step_still hst hscript) k

/-- After reset every register is 0. -/
theorem reset_x {f : Field} (hf : IsReg f) : State.reset.x f = 0 := by
  have hr : f.toNat < Config.nreg := Nat.lt_succ_of_le hf
  simp [State.x, State.reset, RegFile.zero, hr]

/-- Settles O47: the registers by `reset_x`, every other field as `State.reset` writes it. -/
theorem resetValues : Obligations.ResetValues :=
  ⟨fun _ hf => reset_x hf, rfl, rfl, rfl, rfl, rfl, rfl, rfl, rfl, rfl⟩

end Sys2Proof.Machine

/-! What a run keeps: the program and its parameters (20_memory.md R61; 10_state.md R27, R30, R31). -/

namespace Sys2Proof.Machine

/-- What the host's LOAD gives a run: the program, IPSEL, the bound and the progress interval
(70_reset_and_hazards.md R241). -/
def State.loadedParameters (s : State) : List InstrWord × IpSel × Bool × Word × Word :=
  (s.program, s.ipsel, s.maxStepsEn, s.maxSteps, s.progressN)

theorem loadedParameters_eq_iff {s t : State} :
    t.loadedParameters = s.loadedParameters ↔
      t.program = s.program ∧ t.ipsel = s.ipsel ∧ t.maxStepsEn = s.maxStepsEn ∧ t.maxSteps = s.maxSteps ∧
        t.progressN = s.progressN := by
  simp only [State.loadedParameters, Prod.mk.injEq]

/-- There is no store to the program and none to a parameter: an instruction writes a register or the fault record. -/
theorem exec_loadedParameters {i : Instr} {s t : State} (h : exec i s = .next t) :
    t.loadedParameters = s.loadedParameters := by
  rcases exec_cases i s with ⟨v, hx⟩ | ⟨fld, idx, hx⟩ <;> rw [hx] at h <;> cases h <;> rfl

theorem runDecoded_loadedParameters {ip : RegIdx} {d : Decoded} {s t : State} (h : runDecoded ip d s = .next t) :
    t.loadedParameters = s.loadedParameters := by
  cases d with
  | unknownOpcode op => cases h; rfl
  | instr i =>
    cases hx : exec i s with
    | next u =>
      have hu : u.loadedParameters = s.loadedParameters := exec_loadedParameters hx
      simp only [runDecoded, hx] at h
      split_ifs at h <;> cases h <;> exact hu
    | fault r => simp [runDecoded, hx] at h
    | refused r => simp [runDecoded, hx] at h

/-- A cycle keeps the program and the parameters, whatever moves of the host follow; with an illegal binding it answers no
next state. -/
theorem cycle_loadedParameters {s t : State} (h : cycle s = .next t) : t.loadedParameters = s.loadedParameters := by
  simp only [cycle] at h
  split at h
  case h_1 => cases h
  case h_2 ip _ =>
    split at h
    case h_1 => cases h; rfl
    case h_2 =>
      split at h
      case h_1 => cases h
      case h_2 => exact runDecoded_loadedParameters (s := s.writeReg ip s.pc) h

theorem engineTurn_loadedParameters {s t : State} (h : engineTurn s = .next t) :
    t.loadedParameters = s.loadedParameters := by
  simp only [engineTurn] at h
  split_ifs at h
  · exact cycle_loadedParameters h
  · cases h; rfl

theorem hostLoad_refused_of_running {s : State} (l : LoadArgs) (h : s.status = .running) :
    hostLoad l s = .refused .loadWhileRunning := if_pos h

theorem hostStart_refused_of_running {s : State} (r : Option RegFile) (p : Option Word) (h : s.status = .running) :
    hostStart r p s = .refused .startWhileRunning := if_pos h

/-- A LOAD while RUNNING is not performed (70_reset_and_hazards.md R241). -/
theorem step_load_refused_of_running {s : State} {l : LoadArgs} {rest : List HostMove} (hrun : s.status = .running)
    (hscript : s.hostScript = .load l :: rest) : step s = .refused .loadWhileRunning :=
  (step_host hscript).trans (hostLoad_refused_of_running l hrun)

/-- Of the host's moves while RUNNING, LOAD and START are refused, WAIT and CANCEL keep the program and the parameters, and
RESET is excepted. -/
theorem hostTurn_loadedParameters_of_running {m : HostMove} {s t : State} (hrun : s.status = .running)
    (hreset : m ≠ .reset) (h : hostTurn m s = .next t) : t.loadedParameters = s.loadedParameters := by
  cases m with
  | wait => exact engineTurn_loadedParameters h
  | reset => exact absurd rfl hreset
  | load l => cases (hostLoad_refused_of_running l hrun).symm.trans h
  | start r p => cases (hostStart_refused_of_running r p hrun).symm.trans h
  | setCancel b => cases h; rfl

theorem step_loadedParameters_of_running {s t : State} (hrun : s.status = .running)
    (hreset : s.hostScript.head? ≠ some .reset) (hstep : step s = .next t) :
    t.loadedParameters = s.loadedParameters := by
  cases hscript : s.hostScript with
  | nil => exact engineTurn_loadedParameters ((step_engine hscript).symm.trans hstep)
  | cons m rest =>
    have hm : m ≠ .reset := by
      rintro rfl
      exact hreset (by rw [hscript]; rfl)
    exact hostTurn_loadedParameters_of_running (s := s.afterMove rest) hrun hm ((step_host hscript).symm.trans hstep)

/-- Settles O45: every turn taken while RUNNING keeps the program and the parameters, and a LOAD is refused. -/
theorem runKeepsProgramAndParameters : Obligations.RunKeepsProgramAndParameters := by
  refine ⟨?keeps, ?load⟩
  case keeps =>
    exact fun s t hrun hreset hstep => loadedParameters_eq_iff.mp (step_loadedParameters_of_running hrun hreset hstep)
  case load =>
    intro s l rest hrun hscript t hstep
    cases (step_load_refused_of_running hrun hscript).symm.trans hstep

end Sys2Proof.Machine

/-! The assembler, the order of the index checks, the ignored field and the immediate (30_encoding.md R84, R89, R91, R92,
R101). -/

namespace Sys2Proof

/-- The mnemonics with their numbers, row by row (30_encoding.md R84). -/
def opcodeMap : List (String × Field) :=
  [("addr", 0x00000000#32), ("addi", 0x00000001#32), ("mulr", 0x00000002#32), ("muli", 0x00000003#32),
    ("banr", 0x00000004#32), ("bani", 0x00000005#32), ("borr", 0x00000006#32), ("bori", 0x00000007#32),
    ("setr", 0x00000008#32), ("seti", 0x00000009#32), ("gtir", 0x0000000A#32), ("gtri", 0x0000000B#32),
    ("gtrr", 0x0000000C#32), ("eqir", 0x0000000D#32), ("eqri", 0x0000000E#32), ("eqrr", 0x0000000F#32)]

/-- A mnemonic of the map names an instruction whose word has the map's number. -/
theorem encode_instrNamed {mnemonic : String} {opcode : Field} (h : (mnemonic, opcode) ∈ opcodeMap) (a b c : Field) :
    (instrNamed mnemonic a b c).map encode = some (packWord opcode a b c) := by
  fin_cases h <;> rfl

theorem numeral?_eq_some {n : Nat} (h : n < 2 ^ 32) : numeral? n = some (BitVec.ofNat 32 n) := if_pos h

/-- A line whose numerals fit assembles to the word of the instruction its mnemonic names. -/
theorem assembleLine_instr (mnemonic : String) {a b c : Nat} (ha : a < 2 ^ 32) (hb : b < 2 ^ 32) (hc : c < 2 ^ 32) :
    assembleLine (.instr mnemonic a b c) =
      (instrNamed mnemonic (BitVec.ofNat 32 a) (BitVec.ofNat 32 b) (BitVec.ofNat 32 c)).map encode := by
  simp only [assembleLine, numeral?_eq_some ha, numeral?_eq_some hb, numeral?_eq_some hc, Option.bind_eq_bind,
    Option.bind_some, Option.pure_def, Option.map_eq_bind, Function.comp_def]

/-- Settles O4: the line's numerals become fields (`assembleLine_instr`), and each row of the map is encoded with its
number (`encode_instrNamed`). -/
theorem assembledLineIsTheEncodedInstruction : Obligations.AssembledLineIsTheEncodedInstruction := by
  intro mnemonic opcode a b c hrow ha hb hc
  exact (assembleLine_instr mnemonic ha hb hc).trans (encode_instrNamed hrow ..)

theorem wellFormed_iff (i : Instr) : i.wellFormed = true ↔ ∀ p ∈ i.indexFields, IsReg p.2 := by
  simp only [Instr.wellFormed, List.all_eq_true, decide_eq_true_eq]

/-- The first of the given fields whose index is out of range, if there is one. -/
def firstBad (l : List (FieldId × Field)) : Option (FieldId × Field) := l.find? fun p => decide (¬IsReg p.2)

theorem firstBadIndex_eq_firstBad (i : Instr) : i.firstBadIndex = firstBad i.indexFields := rfl

theorem firstBad_append (l m : List (FieldId × Field)) : firstBad (l ++ m) = (firstBad l).or (firstBad m) :=
  List.find?_append

theorem firstBad_singleton_of_isReg (fld : FieldId) {f : Field} (h : IsReg f) : firstBad [(fld, f)] = none := by
  simpa [firstBad] using h

theorem firstBad_singleton_of_not_isReg (fld : FieldId) {f : Field} (h : ¬IsReg f) :
    firstBad [(fld, f)] = some (fld, f) := by
  simpa [firstBad] using h

end Sys2Proof

namespace Sys2Proof.Machine

/-- What phase 7 checks of an operand that stands in the field named `fld`: its index in register mode, nothing in the
other modes (30_encoding.md R89 to R91). -/
def Operand.checkedIndex (fld : FieldId) : Operand → List (FieldId × Field)
  | .reg f => [(fld, f)]
  | .imm _ | .ignored _ => []

/-- An operand has no value exactly where its check fails. -/
theorem value?_checkedIndex (fld : FieldId) (o : Operand) (s : State) :
    (o.value? s = none ∧ firstBad (o.checkedIndex fld) = some (fld, o.field)) ∨
      ∃ u, o.value? s = some u ∧ firstBad (o.checkedIndex fld) = none := by
  cases o with
  | imm f => exact .inr ⟨_, rfl, rfl⟩
  | ignored f => exact .inr ⟨_, rfl, rfl⟩
  | reg f =>
    by_cases hf : IsReg f
    · exact .inr ⟨_, value?_reg hf, firstBad_singleton_of_isReg fld hf⟩
    · exact .inl ⟨value?_reg_none hf, firstBad_singleton_of_not_isReg fld hf⟩

/-- The checks of phase 7 in their order: the fault is that of the first failing field (30_encoding.md R92). -/
theorem execute_of_firstBad {a b : Operand} {c : Field} {result : Word → Word → Word} {s : State} {fld : FieldId}
    {idx : Field} (h : firstBad (a.checkedIndex .a ++ (b.checkedIndex .b ++ [(.c, c)])) = some (fld, idx)) :
    execute a b c result s = .next (s.indexFault fld idx) := by
  rw [firstBad_append, firstBad_append] at h
  rcases value?_checkedIndex .a a s with ⟨hva, hka⟩ | ⟨u, hva, hka⟩
  · rw [hka] at h
    cases h
    exact execute_fault_a hva
  rcases value?_checkedIndex .b b s with ⟨hvb, hkb⟩ | ⟨v, hvb, hkb⟩
  · rw [hka, hkb] at h
    cases h
    exact execute_fault_b hva hvb
  by_cases hc : IsReg c
  · rw [hka, hkb, firstBad_singleton_of_isReg .c hc] at h
    cases h
  · rw [hka, hkb, firstBad_singleton_of_not_isReg .c hc] at h
    cases h
    exact execute_fault_c hva hvb hc

/-- An instruction's index fields are the checked indices of its operands and its destination, so its outcome with a bad
index is that of `execute`. -/
theorem exec_of_firstBadIndex {i : Instr} {fld : FieldId} {idx : Field} (s : State)
    (h : i.firstBadIndex = some (fld, idx)) : exec i s = .next (s.indexFault fld idx) := by
  rw [firstBadIndex_eq_firstBad] at h
  cases i <;> exact execute_of_firstBad h

/-- Settles O22: the first failing check of the instruction's index fields is the one `execute` reports. -/
theorem firstBadIndexIsReported : Obligations.FirstBadIndexIsReported :=
  fun _ s _ _ h => exec_of_firstBadIndex s h

/-- The outcome is the same for every two values of an ignored second operand: it is not checked, and its value is not its
field's. -/
theorem execute_ignored_eq (a : Operand) (b b' c : Field) (result : Word → Word → Word) (s : State) :
    execute a (.ignored b) c result s = execute a (.ignored b') c result s := by
  cases ha : a.value? s with
  | none => rw [execute_fault_a ha, execute_fault_a ha]
  | some u =>
    have hb : ∀ f, (Operand.ignored f).value? s = some 0 := value?_ignored s
    by_cases hc : IsReg c
    · rw [execute_ok ha (hb b) hc, execute_ok ha (hb b') hc]
    · rw [execute_fault_c ha (hb b) hc, execute_fault_c ha (hb b') hc]

/-- Settles O23: the field `b` of the two moves is an ignored operand and is not among their index fields. -/
theorem ignoredFieldHasNoEffect : Obligations.IgnoredFieldHasNoEffect := by
  intro s a b b' c
  refine ⟨execute_ignored_eq (.reg a) b b' c first s, execute_ignored_eq (.imm a) b b' c first s, ?setr, ?seti⟩
  case setr =>
    intro ha hc
    simpa [wellFormed_iff, Instr.indexFields] using And.intro ha hc
  case seti =>
    intro hc
    simpa [wellFormed_iff, Instr.indexFields] using hc

/-- Zero extension keeps the unsigned value, and the wider sign bit is 0 (30_encoding.md R89). -/
theorem toInt_zext64 (f : Field) : (zext64 f).toInt = f.toNat := by
  have hf := f.isLt
  have hn : (zext64 f).toNat = f.toNat := BitVec.toNat_setWidth_of_le (by decide)
  rw [BitVec.toInt_eq_toNat_of_lt (by omega), hn]

/-- Settles O24: an immediate's value is its zero extension, whose signed value is the field's unsigned one. -/
theorem immediateIsZeroExtended : Obligations.ImmediateIsZeroExtended := by
  intro s f
  have hf := f.isLt
  refine ⟨zext64 f, value?_imm s f, toInt_zext64 f, ?_, ?_⟩ <;> rw [toInt_zext64] <;> omega

end Sys2Proof.Machine

/-! Decoding of an encoded instruction, the outcome of the classes RR and RI, and the arithmetic instructions
(30_encoding.md R81, R84, R85; 40_arithmetic.md R120 to R124). -/

namespace Sys2Proof

/-- The decoder reads back the number and the three fields an instruction was packed from (30_encoding.md R81, R84). -/
theorem decode_encode (i : Instr) : decode (encode i) = .instr i := by
  cases i <;> simp [encode, decode, wordOpcode_packWord, wordA_packWord, wordB_packWord, wordC_packWord]

end Sys2Proof

namespace Sys2Proof.Machine

/-- The outcome of an instruction of class RR on every state (30_encoding.md R85, R92). -/
theorem execute_reg_reg (result : Word → Word → Word) (s : State) (a b c : Field) :
    (IsReg a → IsReg b → IsReg c →
      execute (.reg a) (.reg b) c result s = .next (s.withX c (result (s.x a) (s.x b)))) ∧
    (¬IsReg a → execute (.reg a) (.reg b) c result s = .next (s.indexFault .a a)) ∧
    (IsReg a → ¬IsReg b → execute (.reg a) (.reg b) c result s = .next (s.indexFault .b b)) ∧
    (IsReg a → IsReg b → ¬IsReg c → execute (.reg a) (.reg b) c result s = .next (s.indexFault .c c)) :=
  ⟨fun ha hb hc => execute_ok (value?_reg ha) (value?_reg hb) hc,
    fun ha => execute_fault_a (value?_reg_none ha),
    fun ha hb => execute_fault_b (value?_reg ha) (value?_reg_none hb),
    fun ha hb hc => execute_fault_c (value?_reg ha) (value?_reg hb) hc⟩

/-- The outcome of an instruction of class RI on every state: `b` is never checked (30_encoding.md R85, R89, R92). -/
theorem execute_reg_imm (result : Word → Word → Word) (s : State) (a b c : Field) :
    (IsReg a → IsReg c →
      execute (.reg a) (.imm b) c result s = .next (s.withX c (result (s.x a) (zext64 b)))) ∧
    (¬IsReg a → execute (.reg a) (.imm b) c result s = .next (s.indexFault .a a)) ∧
    (IsReg a → ¬IsReg c → execute (.reg a) (.imm b) c result s = .next (s.indexFault .c c)) :=
  ⟨fun ha hc => execute_ok (value?_reg ha) (value?_imm s b) hc,
    fun ha => execute_fault_a (value?_reg_none ha),
    fun ha hc => execute_fault_c (value?_reg ha) (value?_imm s b) hc⟩

/-- Settles O5: the encoding by `decode_encode`, the outcome as that of class RR. -/
theorem addrWritesWrappedSum : Obligations.AddrWritesWrappedSum :=
  fun s a b c => ⟨decode_encode (.addr a b c), execute_reg_reg sum s a b c⟩

/-- Settles O6: the outcome is that of class RI, with the immediate's signed value its unsigned one. -/
theorem addiWritesWrappedSum : Obligations.AddiWritesWrappedSum := by
  intro s a b c
  rw [← toInt_zext64 b]
  exact ⟨decode_encode (.addi a b c), execute_reg_imm sum s a b c⟩

/-- Settles O7: the encoding by `decode_encode`, the outcome as that of class RR. -/
theorem mulrWritesWrappedProduct : Obligations.MulrWritesWrappedProduct :=
  fun s a b c => ⟨decode_encode (.mulr a b c), execute_reg_reg product s a b c⟩

/-- Settles O8: the outcome is that of class RI, with the immediate's signed value its unsigned one. -/
theorem muliWritesWrappedProduct : Obligations.MuliWritesWrappedProduct := by
  intro s a b c
  rw [← toInt_zext64 b]
  exact ⟨decode_encode (.muli a b c), execute_reg_imm product s a b c⟩

/-- The wrapped sum is the sum of the bit patterns, so it does not depend on how the operands are viewed
(40_arithmetic.md R124). -/
theorem sum_eq_add (u v : Word) : sum u v = u + v := by
  simp only [sum, wrap64, BitVec.ofInt_add, BitVec.ofInt_toInt]

/-- The wrapped product is the product of the bit patterns, so it does not depend on how the operands are viewed
(40_arithmetic.md R124). -/
theorem product_eq_mul (u v : Word) : product u v = u * v := by
  simp only [product, wrap64, BitVec.ofInt_mul, BitVec.ofInt_toInt]

/-- Wrapping keeps the value modulo `2^64` (00_scope.md section 5). -/
theorem toInt_wrap64_emod (n : Int) : (wrap64 n).toInt % 2 ^ 64 = n % 2 ^ 64 := by
  rw [wrap64, BitVec.toInt_ofInt]
  exact Int.bmod_emod

/-- A value that fits in 64 signed bits is wrapped to itself. -/
theorem toInt_wrap64_of_fits {n : Int} (hlo : -2 ^ 63 ≤ n) (hhi : n < 2 ^ 63) : (wrap64 n).toInt = n :=
  BitVec.toInt_ofInt_eq_self (by decide) hlo hhi

/-- Settles O25: the unsigned view by `sum_eq_add` and `product_eq_mul`, the signed view by what `wrap64` keeps. -/
theorem arithmeticIsLowBitsOfExactResult : Obligations.ArithmeticIsLowBitsOfExactResult := by
  intro s a b c ha hb hc
  have hexec (result : Word → Word → Word) :
      execute (.reg a) (.reg b) c result s = .next (s.withX c (result (s.x a) (s.x b))) :=
    execute_ok (value?_reg ha) (value?_reg hb) hc
  refine ⟨⟨sum (s.x a) (s.x b), hexec sum, ?sumUnsigned, toInt_wrap64_emod _, toInt_wrap64_of_fits⟩,
    ⟨product (s.x a) (s.x b), hexec product, ?productUnsigned, toInt_wrap64_emod _, toInt_wrap64_of_fits⟩⟩
  case sumUnsigned => rw [sum_eq_add, BitVec.toNat_add]
  case productUnsigned => rw [product_eq_mul, BitVec.toNat_mul]

end Sys2Proof.Machine

/-! The bitwise instructions (41_bitwise.md R130 to R134): `bitAnd` and `bitOr` on the operands of the classes RR and
RI. -/

namespace Sys2Proof.Machine

/-- Settles O9: the encoding by `decode_encode`, the outcome as that of class RR. -/
theorem banrWritesBitwiseAnd : Obligations.BanrWritesBitwiseAnd :=
  fun s a b c => ⟨decode_encode (.banr a b c), execute_reg_reg bitAnd s a b c⟩

/-- Settles O10: the encoding by `decode_encode`, the outcome as that of class RI. -/
theorem baniWritesBitwiseAnd : Obligations.BaniWritesBitwiseAnd :=
  fun s a b c => ⟨decode_encode (.bani a b c), execute_reg_imm bitAnd s a b c⟩

/-- Settles O11: the encoding by `decode_encode`, the outcome as that of class RR. -/
theorem borrWritesBitwiseOr : Obligations.BorrWritesBitwiseOr :=
  fun s a b c => ⟨decode_encode (.borr a b c), execute_reg_reg bitOr s a b c⟩

/-- Settles O12: the encoding by `decode_encode`, the outcome as that of class RI. -/
theorem boriWritesBitwiseOr : Obligations.BoriWritesBitwiseOr :=
  fun s a b c => ⟨decode_encode (.bori a b c), execute_reg_imm bitOr s a b c⟩

end Sys2Proof.Machine

/-! The move instructions (42_move.md R140, R141): `first` on the operands of the classes RX and IX, whose second operand
is ignored (30_encoding.md R91). -/

namespace Sys2Proof.Machine

/-- The outcome of an instruction of class RX on every state: `b` is never checked (30_encoding.md R85, R91, R92). -/
theorem execute_reg_ignored (result : Word → Word → Word) (s : State) (a b c : Field) :
    (IsReg a → IsReg c →
      execute (.reg a) (.ignored b) c result s = .next (s.withX c (result (s.x a) 0))) ∧
    (¬IsReg a → execute (.reg a) (.ignored b) c result s = .next (s.indexFault .a a)) ∧
    (IsReg a → ¬IsReg c → execute (.reg a) (.ignored b) c result s = .next (s.indexFault .c c)) :=
  ⟨fun ha hc => execute_ok (value?_reg ha) (value?_ignored s b) hc,
    fun ha => execute_fault_a (value?_reg_none ha),
    fun ha hc => execute_fault_c (value?_reg ha) (value?_ignored s b) hc⟩

/-- The outcome of an instruction of class IX on every state: neither `a` nor `b` is checked (30_encoding.md R85, R89,
R91, R92). -/
theorem execute_imm_ignored (result : Word → Word → Word) (s : State) (a b c : Field) :
    (IsReg c → execute (.imm a) (.ignored b) c result s = .next (s.withX c (result (zext64 a) 0))) ∧
    (¬IsReg c → execute (.imm a) (.ignored b) c result s = .next (s.indexFault .c c)) :=
  ⟨fun hc => execute_ok (value?_imm s a) (value?_ignored s b) hc,
    fun hc => execute_fault_c (value?_imm s a) (value?_ignored s b) hc⟩

/-- Settles O13: the encoding by `decode_encode`, the outcome as that of class RX. -/
theorem setrCopiesRegister : Obligations.SetrCopiesRegister :=
  fun s a b c => ⟨decode_encode (.setr a b c), execute_reg_ignored first s a b c⟩

/-- Settles O14: the outcome is that of class IX, and zero extension is the word of the field's unsigned value. -/
theorem setiWritesImmediate : Obligations.SetiWritesImmediate := by
  intro s a b c
  rw [BitVec.ofNat_toNat]
  exact ⟨decode_encode (.seti a b c), execute_imm_ignored first s a b c⟩

end Sys2Proof.Machine

/-! The comparison instructions (43_compare.md R150 to R156): `greaterThan` and `equalTo` on the operands of the classes
RR, RI and IR. -/

namespace Sys2Proof.Machine

/-- A greater-than writes 1 where the first signed value exceeds the second, else 0 (43_compare.md R156). -/
theorem greaterThan_eq_ite (u v : Word) : greaterThan u v = if v.toInt < u.toInt then 1 else 0 := by
  simp only [greaterThan, conditionWord, decide_eq_true_eq]

/-- An equality writes 1 where the two signed values are equal, else 0 (43_compare.md R156). -/
theorem equalTo_eq_ite (u v : Word) : equalTo u v = if u.toInt = v.toInt then 1 else 0 := by
  simp only [equalTo, conditionWord, decide_eq_true_eq]

/-- The outcome of an instruction of class IR on every state: `a` is never checked (30_encoding.md R85, R89, R92). -/
theorem execute_imm_reg (result : Word → Word → Word) (s : State) (a b c : Field) :
    (IsReg b → IsReg c →
      execute (.imm a) (.reg b) c result s = .next (s.withX c (result (zext64 a) (s.x b)))) ∧
    (¬IsReg b → execute (.imm a) (.reg b) c result s = .next (s.indexFault .b b)) ∧
    (IsReg b → ¬IsReg c → execute (.imm a) (.reg b) c result s = .next (s.indexFault .c c)) :=
  ⟨fun hb hc => execute_ok (value?_imm s a) (value?_reg hb) hc,
    fun hb => execute_fault_b (value?_imm s a) (value?_reg_none hb),
    fun hb hc => execute_fault_c (value?_imm s a) (value?_reg hb) hc⟩

/-- Settles O15: the outcome is that of class IR, with the immediate's signed value its unsigned one. -/
theorem gtirWritesImmediateGreater : Obligations.GtirWritesImmediateGreater := by
  intro s a b c
  rw [← toInt_zext64 a, ← greaterThan_eq_ite]
  exact ⟨decode_encode (.gtir a b c), execute_imm_reg greaterThan s a b c⟩

/-- Settles O16: the outcome is that of class RI, with the immediate's signed value its unsigned one. -/
theorem gtriWritesRegisterGreater : Obligations.GtriWritesRegisterGreater := by
  intro s a b c
  rw [← toInt_zext64 b, ← greaterThan_eq_ite]
  exact ⟨decode_encode (.gtri a b c), execute_reg_imm greaterThan s a b c⟩

/-- Settles O17: the outcome is that of class RR, whose result `greaterThan_eq_ite` gives. -/
theorem gtrrWritesSignedGreater : Obligations.GtrrWritesSignedGreater := by
  intro s a b c
  rw [← greaterThan_eq_ite]
  exact ⟨decode_encode (.gtrr a b c), execute_reg_reg greaterThan s a b c⟩

/-- Settles O18: the outcome is that of class IR, with the immediate's signed value its unsigned one. -/
theorem eqirWritesImmediateEqual : Obligations.EqirWritesImmediateEqual := by
  intro s a b c
  rw [← toInt_zext64 a, ← equalTo_eq_ite]
  exact ⟨decode_encode (.eqir a b c), execute_imm_reg equalTo s a b c⟩

/-- Settles O19: the outcome is that of class RI, with the immediate's signed value its unsigned one. -/
theorem eqriWritesRegisterEqual : Obligations.EqriWritesRegisterEqual := by
  intro s a b c
  rw [← toInt_zext64 b, ← equalTo_eq_ite]
  exact ⟨decode_encode (.eqri a b c), execute_reg_imm equalTo s a b c⟩

/-- Settles O20: the outcome is that of class RR, whose result `equalTo_eq_ite` gives. -/
theorem eqrrWritesRegistersEqual : Obligations.EqrrWritesRegistersEqual := by
  intro s a b c
  rw [← equalTo_eq_ite]
  exact ⟨decode_encode (.eqrr a b c), execute_reg_reg equalTo s a b c⟩

end Sys2Proof.Machine

/-! One cycle: the mirror write, the stopping tests, an instruction's step, the latch, the count and the progress event
(45_cycle_and_control_flow.md R172 to R195). -/

namespace Sys2Proof.Machine

/-- The fields that phase 7 checks are all legal, so the shared phases 7 to 9 write a result back. -/
theorem execute_of_firstBad_none {a b : Operand} {c : Field} {result : Word → Word → Word} {s : State}
    (h : firstBad (a.checkedIndex .a ++ (b.checkedIndex .b ++ [(.c, c)])) = none) :
    IsReg c ∧ ∃ v, execute a b c result s = .next (s.withX c v) := by
  rw [firstBad_append, firstBad_append, Option.or_eq_none_iff, Option.or_eq_none_iff] at h
  obtain ⟨hka, hkb, hkc⟩ := h
  have hc : IsReg c := by
    by_contra hc
    rw [firstBad_singleton_of_not_isReg .c hc] at hkc
    cases hkc
  rcases value?_checkedIndex .a a s with ⟨-, hfail⟩ | ⟨u, hva, -⟩
  · cases hka.symm.trans hfail
  rcases value?_checkedIndex .b b s with ⟨-, hfail⟩ | ⟨v, hvb, -⟩
  · cases hkb.symm.trans hfail
  exact ⟨hc, _, execute_ok hva hvb hc⟩

/-- An instruction none of whose indices is bad writes one value to its destination, on every state. -/
theorem exec_of_firstBadIndex_none {i : Instr} (s : State) (h : i.firstBadIndex = none) :
    IsReg i.dest ∧ ∃ v, exec i s = .next (s.withX i.dest v) := by
  rw [firstBadIndex_eq_firstBad] at h
  cases i <;> exact execute_of_firstBad_none h

theorem firstBadIndex_eq_none_iff (i : Instr) : i.firstBadIndex = none ↔ i.wellFormed = true := by
  simp [Instr.firstBadIndex, wellFormed_iff]

theorem exec_of_wellFormed {i : Instr} (s : State) (h : i.wellFormed = true) :
    IsReg i.dest ∧ ∃ v, exec i s = .next (s.withX i.dest v) :=
  exec_of_firstBadIndex_none s ((firstBadIndex_eq_none_iff i).mpr h)

/-- Settles O21: the outcome is a write to the legal destination alone, read back by `x_withX_same` and `x_withX_other`. -/
theorem instructionWritesOnlyItsDestination : Obligations.InstructionWritesOnlyItsDestination := by
  intro i s hwf
  obtain ⟨hdest, v, hexec⟩ := exec_of_wellFormed s hwf
  exact ⟨v, s.withX i.dest v, hexec, rfl, x_withX_same s v hdest, fun f _ hne => x_withX_other s v hne, rfl⟩

/-- Where the engine runs, its step is a cycle (45_cycle_and_control_flow.md R170). -/
theorem step_eq_cycle {s : State} (hrun : EngineRuns s) : step s = cycle s := by
  obtain ⟨hstatus, hscript, -⟩ := hrun
  rw [step_engine hscript, engineTurn_running hstatus]

/-- After the mirror write of a cycle `x[IPSEL]` is `pc` (R172). -/
theorem mirrored_x_ipField_of_engineRuns {s : State} (hrun : EngineRuns s) : s.mirrored.x s.ipField = s.pc := by
  obtain ⟨-, -, hip⟩ := hrun
  exact mirrored_x_ipField hip

/-- The mirror write overwrites whatever `x[IPSEL]` held, so a cycle does not depend on it (R172). -/
theorem step_withX_ipField {s : State} (hrun : EngineRuns s) (v : Word) : step (s.withX s.ipField v) = step s := by
  have ⟨_, _, hbinding⟩ := hrun
  obtain ⟨ip, hip, hval⟩ := ipIndex?_eq_some hbinding
  have hmirror : (s.withX s.ipField v).writeReg ip s.pc = s.writeReg ip s.pc := by
    rw [writeReg_eq_withX s s.pc hval, writeReg_eq_withX (s.withX s.ipField v) s.pc hval, withX_withX]
  rw [step_eq_cycle hrun, step_eq_cycle (s := s.withX s.ipField v) hrun]
  simp only [cycle, State.withX_ipsel, State.withX_pc, hip, hmirror]

/-- The stopping tests do not read the registers, so the mirror write does not change them. -/
@[simp] theorem stopTest_mirrored (s : State) : s.mirrored.stopTest = s.stopTest := rfl

/-- A cycle in which a stopping test holds ends after the mirror write with the test's status
(45_cycle_and_control_flow.md R173 to R175). -/
theorem step_of_stopTest {s : State} {st : Status} (hrun : EngineRuns s) (hst : s.stopTest = some st) :
    step s = .next (s.mirrored.stop st) := by
  have ⟨_, _, hbinding⟩ := hrun
  obtain ⟨ip, -, hcycle⟩ := cycle_eq hbinding
  rw [step_eq_cycle hrun, hcycle, stopTest_mirrored, hst]

/-- A cycle that passes the stopping tests runs the decoded word on the mirrored state (R176, R177). -/
theorem step_of_fetch {s : State} {w : InstrWord} (hs : Steppable s) (hw : s.program[s.pc.toNat]? = some w) :
    ∃ ip : RegIdx, ip.val = s.ipField.toNat ∧ step s = runDecoded ip (decode w) s.mirrored := by
  obtain ⟨hrun, hpc, hcancel, hbound⟩ := hs
  have ⟨_, _, hbinding⟩ := hrun
  obtain ⟨ip, hval, hcycle⟩ := cycle_eq hbinding
  have hst : s.stopTest = none := by simp [stopTest_eq, hpc, hcancel, hbound]
  have hfetch : s.mirrored.fetch = some w := hw
  refine ⟨ip, hval, ?_⟩
  rw [step_eq_cycle hrun, hcycle, stopTest_mirrored, hst, hfetch]

/-- The step of an unknown opcode, from the warning to the end of the step (R177). -/
theorem step_unknownOpcode {s : State} {w : InstrWord} {op : Field} (hs : Steppable s)
    (hw : s.program[s.pc.toNat]? = some w) (hd : decode w = .unknownOpcode op) :
    step s = .next (s.mirrored.unknownWarned op).stepEnded := by
  obtain ⟨ip, hval, hstep⟩ := step_of_fetch hs hw
  rw [hstep, hd, ← finishStep_eq_stepEnded (s.mirrored.unknownWarned op) hval]
  rfl

section instructionStep

variable {s : State} {w : InstrWord} {i : Instr}

/-- An instruction that leaves the run going completes its step (R181 to R183). -/
theorem step_of_exec_running {t : State} (hs : Steppable s) (hw : s.program[s.pc.toNat]? = some w)
    (hd : decode w = .instr i) (hexec : exec i s.mirrored = .next t) (ht : t.status = .running) :
    step s = .next t.stepEnded := by
  obtain ⟨ip, hval, hstep⟩ := step_of_fetch hs hw
  have hfield : ip.val = t.ipField.toNat := by rw [exec_ipField hexec]; exact hval
  simp only [hstep, hd, runDecoded, hexec, if_pos ht, finishStep_eq_stepEnded t hfield]

/-- An instruction that stops the run ends the cycle there (R178). -/
theorem step_of_exec_stopped {t : State} (hs : Steppable s) (hw : s.program[s.pc.toNat]? = some w)
    (hd : decode w = .instr i) (hexec : exec i s.mirrored = .next t) (ht : t.status ≠ .running) :
    step s = .next t := by
  obtain ⟨ip, -, hstep⟩ := step_of_fetch hs hw
  simp only [hstep, hd, runDecoded, hexec, if_neg ht]

/-- An instruction that writes `v` to a register completes its step with that write. -/
theorem step_of_exec_withX {f : Field} {v : Word} (hs : Steppable s) (hw : s.program[s.pc.toNat]? = some w)
    (hd : decode w = .instr i) (hexec : exec i s.mirrored = .next (s.mirrored.withX f v)) :
    step s = .next (s.mirrored.withX f v).stepEnded :=
  step_of_exec_running hs hw hd hexec hs.1.1

/-- The step of an instruction with legal operands: one write to its destination, then the end of the step. -/
theorem step_of_wellFormed (hs : Steppable s) (hw : s.program[s.pc.toNat]? = some w) (hd : decode w = .instr i)
    (hwf : i.wellFormed = true) :
    IsReg i.dest ∧ ∃ v, exec i s.mirrored = .next (s.mirrored.withX i.dest v) ∧
      step s = .next (s.mirrored.withX i.dest v).stepEnded := by
  obtain ⟨hdest, v, hexec⟩ := exec_of_wellFormed s.mirrored hwf
  exact ⟨hdest, v, hexec, step_of_exec_withX hs hw hd hexec⟩

end instructionStep

/-- Settles O31: outside the program the first stopping test holds, whatever the others give. -/
theorem leavingTheProgramHalts : Obligations.LeavingTheProgramHalts := by
  intro s hrun hout
  have hst : s.stopTest = some .halted := by rw [stopTest_eq, if_pos hout]
  exact step_of_stopTest hrun hst

/-- Settles O30: only the write-back can change `x[IPSEL]` after the mirror write, and only where the destination is
IPSEL. -/
theorem everyCycleMirrorsPc : Obligations.EveryCycleMirrorsPc := by
  intro s t hrun hstep
  refine ⟨?mirror, fun v => (step_withX_ipField hrun v).trans hstep⟩
  have hmirror : s.mirrored.x s.ipField = s.pc := mirrored_x_ipField_of_engineRuns hrun
  rcases step_cases hrun hstep with
    ⟨st, -, rfl⟩ | ⟨-, w, hw, ⟨op, -, rfl⟩ | ⟨i, hi, ⟨v, -, rfl⟩ | ⟨fld, idx, -, rfl⟩⟩⟩
  case inl => exact .inl hmirror
  case inr.inl => exact .inl hmirror
  case inr.inr.inl =>
    by_cases hd : i.dest = s.ipField
    · exact .inr ⟨hrun.1, w, i, hw, hi, hd⟩
    · exact .inl ((x_withX_other s.mirrored v (Ne.symm hd)).trans hmirror)
  case inr.inr.inr => exact .inl hmirror

/-- A cycle ends in STEP_BOUND only by the bound's own stopping test (R175). -/
theorem step_stepBound_inv {s t : State} (hrun : EngineRuns s) (hstep : step s = .next t)
    (ht : t.status = .stepBound) : BoundReached s ∧ t = s.mirrored.stop .stepBound := by
  rcases step_cases hrun hstep with
    ⟨st, hst, rfl⟩ | ⟨-, w, -, ⟨op, -, rfl⟩ | ⟨i, -, ⟨v, -, rfl⟩ | ⟨fld, idx, -, rfl⟩⟩⟩
  case inl =>
    have hst' : st = .stepBound := ht
    subst hst'
    rcases stopTest_cases hst with ⟨h, -⟩ | ⟨h, -⟩ | ⟨-, -, -, hbound⟩
    · cases h
    · cases h
    · exact ⟨hbound, rfl⟩
  case inr.inl => cases hrun.1.symm.trans ht
  case inr.inr.inl => cases hrun.1.symm.trans ht
  case inr.inr.inr => cases ht

/-- Under the invariant a reached bound is met exactly (10_state.md R30). -/
theorem steps_eq_of_boundReached {s : State} (hinv : Inv s) (hrun : s.status = .running) (h : BoundReached s) :
    (s.maxStepsEn = true ∧ s.steps = s.maxSteps) ∨ s.steps.toNat = 2 ^ 64 - 1 := by
  rcases h with ⟨hen, hle⟩ | hlimit
  · have hge : s.steps.toNat ≤ s.maxSteps.toNat := hinv.bound (by simp [hrun]) hen
    exact .inl ⟨hen, BitVec.eq_of_toNat_eq (Nat.le_antisymm hge hle)⟩
  · exact .inr hlimit

/-- Settles O33: the third stopping test, and conversely `step_stepBound_inv`. -/
theorem reachedBoundStopsTheRun : Obligations.ReachedBoundStopsTheRun := by
  intro s hrun
  refine ⟨?stops, ?only, leavingTheProgramHalts s hrun, ?exactly⟩
  case stops =>
    intro hpc hcancel hbound
    have hst : s.stopTest = some .stepBound := by simp [stopTest_eq, hpc, hcancel, hbound]
    exact step_of_stopTest hrun hst
  case only => exact fun hnot t hstep ht => hnot (step_stepBound_inv hrun hstep ht).1
  case exactly =>
    intro hinv t hstep ht
    obtain ⟨hbound, rfl⟩ := step_stepBound_inv hrun hstep ht
    exact steps_eq_of_boundReached (s := s) hinv hrun.1 hbound

/-- Settles O36: a bad index makes the instruction's outcome the index fault on the mirrored state, and otherwise its
outcome is a write there. -/
theorem badIndexStopsTheRunPrecisely : Obligations.BadIndexStopsTheRunPrecisely := by
  intro s w i hs hw hd
  refine ⟨?fault, ?completes, mirrored_x_ipField_of_engineRuns hs.1⟩
  case fault =>
    intro fld idx hbad
    exact step_of_exec_stopped hs hw hd (exec_of_firstBadIndex s.mirrored hbad) (by simp)
  case completes =>
    intro hnone
    obtain ⟨-, v, hexec⟩ := exec_of_firstBadIndex_none s.mirrored hnone
    exact ⟨_, hexec, step_of_exec_withX hs hw hd hexec⟩

/-- The latch reads `x[IPSEL]` (R181). -/
theorem stepEnded_pc_of_x {t : State} {u : Word} (h : t.x t.ipField = u) : t.stepEnded.pc = wrap64 (u.toInt + 1) := by
  rw [State.stepEnded_pc, h]

/-- Settles O37: the latch reads `x[IPSEL]`, which a write to another register and a warning leave as the mirror write
left it. -/
theorem stepNotWritingIpGoesToNextIndex : Obligations.StepNotWritingIpGoesToNextIndex := by
  refine ⟨?instruction, ?unknown⟩
  case instruction =>
    intro s w i hs hw hd hwf
    obtain ⟨-, v, -, hstep⟩ := step_of_wellFormed hs hw hd hwf
    refine ⟨_, hstep, rfl, fun hne => ?_⟩
    have hip : (s.mirrored.withX i.dest v).x s.ipField = s.pc :=
      (x_withX_other s.mirrored v hne.symm).trans (mirrored_x_ipField_of_engineRuns hs.1)
    exact ⟨hip, stepEnded_pc_of_x hip⟩
  case unknown =>
    intro s w op hs hw hd
    have hip : s.mirrored.x s.ipField = s.pc := mirrored_x_ipField_of_engineRuns hs.1
    exact ⟨_, step_unknownOpcode hs hw hd, hip, stepEnded_pc_of_x hip⟩

/-- Settles O38: the latch reads back the value just written to `x[IPSEL]`. -/
theorem writingIpJumpsToWrittenValuePlusOne : Obligations.WritingIpJumpsToWrittenValuePlusOne := by
  intro s w i hs hw hd hwf hip
  obtain ⟨hdest, v, hexec, hstep⟩ := step_of_wellFormed hs hw hd hwf
  rw [hip] at hdest hexec hstep
  have hv : (s.mirrored.withX s.ipField v).x s.ipField = v := x_withX_same s.mirrored v hdest
  exact ⟨v, _, hexec, hstep, stepEnded_pc_of_x hv⟩

/-- Below the counter's limit counting a step does not wrap. -/
theorem toNat_steps_succ {n : Word} (h : n.toNat ≠ 2 ^ 64 - 1) : (n + 1).toNat = n.toNat + 1 := by
  have hn := n.isLt
  have hone : (1 : Word).toNat = 1 := rfl
  exact BitVec.toNat_add_of_lt (by omega)

/-- Settles O42: phase 11 counts a completed step below the counter's limit, and a stopping cycle does not reach it. -/
theorem stepsCountsCompletedSteps : Obligations.StepsCountsCompletedSteps := by
  intro s t hrun hstep
  have hcount (hst : s.stopTest = none) : (s.steps + 1).toNat = s.steps.toNat + 1 := by
    obtain ⟨-, -, hbound⟩ := stopTest_none hst
    exact toNat_steps_succ fun hlimit => hbound (.inr hlimit)
  rcases step_cases hrun hstep with
    ⟨st, hst, rfl⟩ | ⟨hst, w, -, ⟨op, -, rfl⟩ | ⟨i, -, ⟨v, -, rfl⟩ | ⟨fld, idx, -, rfl⟩⟩⟩
  case inl => rcases stopTest_cases hst with ⟨rfl, -⟩ | ⟨rfl, -⟩ | ⟨rfl, -⟩ <;> rfl
  case inr.inl => simpa [hrun.1] using hcount hst
  case inr.inr.inl => simpa [hrun.1] using hcount hst
  case inr.inr.inr => rfl

/-- The events at the end of a step: the progress event carries the step's own new count and `pc` (R183). -/
theorem stepEnded_events_eq_ite (t : State) :
    t.stepEnded.events =
      if 0 < t.progressN.toNat ∧ t.stepEnded.steps.toNat % t.progressN.toNat = 0 then
        t.events ++ [.progress t.stepEnded.steps t.stepEnded.regs t.stepEnded.pc]
      else t.events := by
  by_cases h : 0 < t.progressN.toNat ∧ (t.steps + 1).toNat % t.progressN.toNat = 0
  · simp only [State.stepEnded, if_pos h]
  · simp only [State.stepEnded, if_neg h, List.append_nil]

/-- Settles O43: the instruction itself puts out no event and an unknown opcode puts out its warning; the end of the step
adds the progress event. -/
theorem progressEventAtMultiplesOfInterval : Obligations.ProgressEventAtMultiplesOfInterval := by
  refine ⟨?instruction, ?unknown⟩
  case instruction =>
    intro s w i hs hw hd hwf
    obtain ⟨-, v, -, hstep⟩ := step_of_wellFormed hs hw hd hwf
    exact ⟨_, hstep, rfl, rfl, stepEnded_events_eq_ite _⟩
  case unknown =>
    intro s w op hs hw hd
    have hip : s.mirrored.x s.ipField = s.pc := mirrored_x_ipField_of_engineRuns hs.1
    refine ⟨_, step_unknownOpcode hs hw hd, rfl, stepEnded_pc_of_x hip, ?_⟩
    rw [stepEnded_events_eq_ite]
    simp

/-- A register after the mirror write. -/
theorem x_mirrored (s : State) {f : Field} (hf : IsReg f) :
    s.mirrored.x f = if f = s.ipField then s.pc else s.x f := by
  split_ifs with h
  · subst h
    exact x_withX_same s s.pc hf
  · exact x_withX_other s s.pc h

/-- An equality compares the two patterns: equal signed values are equal words. -/
theorem equalTo_eq_ite_eq (u v : Word) : equalTo u v = if u = v then 1 else 0 := by
  simp only [equalTo_eq_ite, BitVec.toInt_inj]

/-- Settles O39: phases 7 to 9 read `pc` from `x[IPSEL]`, the mirrored value of another register operand and the immediate
itself; the old `x[IPSEL]` is overwritten by the mirror write. -/
theorem readingIpGivesOwnIndex : Obligations.ReadingIpGivesOwnIndex := by
  refine ⟨?forms, fun s v hrun => step_withX_ipField hrun v⟩
  case forms =>
    intro s w k b c y hs hw hb hc hy i v hform hd
    have ⟨⟨_, _, hbinding⟩, _⟩ := hs
    have hip : IsReg s.ipField := isReg_ipField hbinding
    have hpc : (Operand.reg s.ipField).value? s.mirrored = some s.pc := by
      rw [value?_reg hip, mirrored_x_ipField_of_engineRuns hs.1]
    have hreg : (Operand.reg b).value? s.mirrored = some y := by rw [value?_reg hb, x_mirrored s hb, hy]
    have himm : (Operand.imm k).value? s.mirrored = some (zext64 k) := value?_imm s.mirrored k
    have hignored : (Operand.ignored k).value? s.mirrored = some 0 := value?_ignored s.mirrored k
    refine step_of_exec_withX hs hw hd ?_
    simp only [← toInt_zext64, ← greaterThan_eq_ite, ← equalTo_eq_ite, ← equalTo_eq_ite_eq, List.mem_cons,
      Prod.mk.injEq, List.not_mem_nil, or_false] at hform
    rcases hform with ⟨rfl, rfl⟩ | ⟨rfl, rfl⟩ | ⟨rfl, rfl⟩ | ⟨rfl, rfl⟩ | ⟨rfl, rfl⟩ | ⟨rfl, rfl⟩ | ⟨rfl, rfl⟩ |
      ⟨rfl, rfl⟩ | ⟨rfl, rfl⟩ | ⟨rfl, rfl⟩ | ⟨rfl, rfl⟩ | ⟨rfl, rfl⟩ | ⟨rfl, rfl⟩ | ⟨rfl, rfl⟩ | ⟨rfl, rfl⟩ |
      ⟨rfl, rfl⟩ | ⟨rfl, rfl⟩ | ⟨rfl, rfl⟩ | ⟨rfl, rfl⟩ | ⟨rfl, rfl⟩ | ⟨rfl, rfl⟩
    -- In the order of the list: six operators of class RR with IPSEL as `a` and as `b`, then RI, RX, RI and IR.
    exacts [execute_ok hpc hreg hc, execute_ok hreg hpc hc, execute_ok hpc hreg hc, execute_ok hreg hpc hc,
      execute_ok hpc hreg hc, execute_ok hreg hpc hc, execute_ok hpc hreg hc, execute_ok hreg hpc hc,
      execute_ok hpc hreg hc, execute_ok hreg hpc hc, execute_ok hpc hreg hc, execute_ok hreg hpc hc,
      execute_ok hpc himm hc, execute_ok hpc himm hc, execute_ok hpc himm hc, execute_ok hpc himm hc,
      execute_ok hpc hignored hc, execute_ok hpc himm hc, execute_ok hpc himm hc,
      execute_ok himm hpc hc, execute_ok himm hpc hc]

end Sys2Proof.Machine

/-! The conditions a cycle can raise and their order (60_exceptions.md R206 to R211). -/

namespace Sys2Proof

/-- The opcode map ends at 15; a larger opcode field is unknown (30_encoding.md R93). -/
theorem decode_of_fifteen_lt_opcode {w : InstrWord} (h : 15 < (wordOpcode w).toNat) :
    decode w = .unknownOpcode (wordOpcode w) := by
  unfold decode
  split
  case h_17 => rfl
  all_goals omega

end Sys2Proof

namespace Sys2Proof.Machine

/-- Settles O32: inside the program the first stopping test fails and the second one, CANCEL, holds. -/
theorem cancelStopsTheRun : Obligations.CancelStopsTheRun := by
  intro s hrun hpc hcancel
  have hst : s.stopTest = some .cancelled := by simp [stopTest_eq, hpc, hcancel]
  exact step_of_stopTest hrun hst

/-- Settles O35: the word decodes to an unknown opcode, whose step leaves `x[IPSEL]` as the mirror write set it and the
run going. -/
theorem unknownOpcodeWarnsAndGoesOn : Obligations.UnknownOpcodeWarnsAndGoesOn := by
  intro s w hs hw hop
  have ⟨hrun, _⟩ := hs
  have ⟨hstatus, _⟩ := hrun
  have hip : s.mirrored.x s.ipField = s.pc := mirrored_x_ipField_of_engineRuns hrun
  exact ⟨step_unknownOpcode hs hw (decode_of_fifteen_lt_opcode hop), stepEnded_pc_of_x hip, hstatus⟩

/-- START with a binding above 5 initialises the run and takes the index fault on IPSEL (60_exceptions.md R207 (b)). -/
theorem hostStart_of_bad_binding {s : State} (r : Option RegFile) (p : Option Word) (hst : s.status ≠ .running)
    (hloaded : s.loaded = true) (hip : 5 < s.ipsel.toNat) :
    hostStart r p s = .next ((s.beginRun r p).indexFault .ipsel s.ipField) := by
  simp only [hostStart, if_neg hst, hloaded, ipIndex?_eq_none hip, takeIndexFault_eq_indexFault]
  rfl

/-- Settles O34: each condition's own theorem gives the whole next state, whose status and records are read off; the
premises exclude the conditions that come before. -/
theorem oneConditionPerCycleInOrder : Obligations.OneConditionPerCycleInOrder := by
  refine ⟨fun s hrun => ⟨?outside, ?cancelled, ?bound, fun hs w hw => ⟨?unknown, ?badIndex⟩⟩, ?binding⟩
  case outside =>
    intro hout
    exact ⟨_, leavingTheProgramHalts s hrun hout, rfl, rfl, rfl, rfl, rfl⟩
  case cancelled =>
    intro hpc hcancel
    exact ⟨_, cancelStopsTheRun s hrun hpc hcancel, rfl, rfl, rfl, rfl, rfl⟩
  case bound =>
    intro hpc hcancel hbound
    obtain ⟨hstops, -⟩ := reachedBoundStopsTheRun s hrun
    exact ⟨_, hstops hpc hcancel hbound, rfl, rfl, rfl, rfl, rfl⟩
  case unknown =>
    intro hop
    obtain ⟨hstep, -, hstatus⟩ := unknownOpcodeWarnsAndGoesOn s w hs hw hop
    exact ⟨_, hstep, hstatus, rfl, rfl, rfl, rfl⟩
  case badIndex =>
    intro i fld idx hd hbad
    obtain ⟨hfault, -⟩ := badIndexStopsTheRunPrecisely s w i hs hw hd
    exact ⟨_, hfault fld idx hbad, rfl, rfl, rfl, rfl, rfl⟩
  case binding =>
    intro s r p rest hscript hst hloaded hip
    have hstart := hostStart_of_bad_binding (s := s.afterMove rest) r p hst hloaded hip
    exact ⟨_, (step_host hscript).trans hstart, rfl, rfl⟩

end Sys2Proof.Machine

/-! The host's moves RESET, LOAD and START (70_reset_and_hazards.md R240, R241, R243). -/

namespace Sys2Proof.Machine

/-- Settles O48: RESET leaves the registers and the program parameters as `State.reset` has them, in every STATUS; without
a move the machine at rest stays as it is. -/
theorem resetMoveGivesResetValues : Obligations.ResetMoveGivesResetValues := by
  refine ⟨?reset, fun s hst hscript => step_still hst hscript⟩
  case reset =>
    intro s rest hscript
    have hstep : step s = .next (s.afterMove rest).hostReset := step_host hscript
    exact ⟨_, hstep, fun f hf => reset_x hf, rfl, rfl, rfl, rfl, rfl, rfl, rfl, rfl, rfl, rfl, rfl⟩

section load

variable {s : State} {l : LoadArgs}

/-- A LOAD of a program that does not fit is not performed (R241). -/
theorem hostLoad_refused_of_too_long (hst : s.status ≠ .running) (hlen : Config.imemDepth < l.program.length) :
    hostLoad l s = .refused .programTooLong := by
  rw [hostLoad, if_neg hst, if_pos hlen]

/-- A legal LOAD is performed, whatever the words and IPSEL are (R241). -/
theorem hostLoad_of_fits (hst : s.status ≠ .running) (hlen : l.program.length ≤ Config.imemDepth) :
    hostLoad l s = .next (s.loadProgram l) := by
  rw [hostLoad, if_neg hst, if_neg (Nat.not_lt.mpr hlen)]

/-- A LOAD that is performed met a machine that was not RUNNING and brought a program that fits. -/
theorem hostLoad_next_legal {t : State} (h : hostLoad l s = .next t) :
    s.status ≠ .running ∧ l.program.length ≤ Config.imemDepth := by
  have hst : s.status ≠ .running := fun hrun => by cases (hostLoad_refused_of_running l hrun).symm.trans h
  refine ⟨hst, Nat.le_of_not_lt fun hlen => ?_⟩
  cases (hostLoad_refused_of_too_long hst hlen).symm.trans h

end load

/-- Settles O50: only a legal LOAD has a next state, and that is what `loadProgram` writes; a bound that is not given
leaves MAXSTEPS as it was. -/
theorem loadWritesProgramAndParameters : Obligations.LoadWritesProgramAndParameters := by
  intro s l rest hscript
  have hlegal (t : State) (h : step s = .next t) : s.status ≠ .running ∧ l.program.length ≤ Config.imemDepth :=
    hostLoad_next_legal (s := s.afterMove rest) ((step_host hscript).symm.trans h)
  refine ⟨fun hrun t h => (hlegal t h).1 hrun, fun hlen t h => Nat.not_le_of_lt hlen (hlegal t h).2, ?performed⟩
  case performed =>
    intro hst hlen
    have hstep : step s = .next ((s.afterMove rest).loadProgram l) :=
      (step_host hscript).trans (hostLoad_of_fits (s := s.afterMove rest) hst hlen)
    have hbound (n : Word) (hn : l.maxSteps = some n) : ((s.afterMove rest).loadProgram l).maxSteps = n := by
      rw [State.loadProgram_maxSteps, hn, Option.getD_some]
    exact ⟨_, hstep, rfl, rfl, rfl, hbound, rfl, rfl, rfl⟩

section start

variable {s : State} (r : Option RegFile) (p : Option Word)

/-- A START with no LOAD since reset is refused (R243). -/
theorem hostStart_refused_of_not_loaded (hst : s.status ≠ .running) (hloaded : s.loaded = false) :
    hostStart r p s = .refused .startBeforeLoad := by
  rw [hostStart, if_neg hst, if_pos hloaded]

/-- START with a legal binding initialises the run and sets STATUS to RUNNING (R243). -/
theorem hostStart_of_legal_binding (hst : s.status ≠ .running) (hloaded : s.loaded = true)
    (hip : s.ipsel.toNat ≤ 5) : hostStart r p s = .next (s.beginRun r p).setRunning := by
  obtain ⟨ip, hbinding, -⟩ := ipIndex?_eq_some hip
  simp [hostStart, hst, hloaded, hbinding]

end start

/-- Settles O51: each clause is one outcome of `hostStart` on the state with the move taken off the script. -/
theorem startInitialisesAndRuns : Obligations.StartInitialisesAndRuns := by
  intro s r p rest hscript
  have hhost : step s = hostStart r p (s.afterMove rest) := step_host hscript
  have hrunning (hrun : s.status = .running) : step s = .refused .startWhileRunning :=
    hhost.trans (hostStart_refused_of_running (s := s.afterMove rest) r p hrun)
  refine ⟨?running, ?notLoaded, ?legalBinding, ?badBinding⟩
  case running =>
    intro hrun t h
    cases (hrunning hrun).symm.trans h
  case notLoaded =>
    intro hloaded
    by_cases hrun : s.status = .running
    · exact ⟨_, hrunning hrun⟩
    · exact ⟨_, hhost.trans (hostStart_refused_of_not_loaded (s := s.afterMove rest) r p hrun hloaded)⟩
  case legalBinding =>
    intro hst hloaded hip
    exact hhost.trans (hostStart_of_legal_binding (s := s.afterMove rest) r p hst hloaded hip)
  case badBinding =>
    intro hst hloaded hip
    exact hhost.trans (hostStart_of_bad_binding (s := s.afterMove rest) r p hst hloaded hip)

end Sys2Proof.Machine

/-! The decoder on every word (30_encoding.md R81, R84, R93, R95). -/

namespace Sys2Proof

/-- Settles O1: the decoder reads back the number and the fields that the encoder packed. -/
theorem encodedInstructionDecodesToItself : Obligations.EncodedInstructionDecodesToItself := decode_encode

/-- Settles O3: each word is the encoding of its instruction, and the last two have an opcode field above 15. -/
theorem specWordsDecode : Obligations.SpecWordsDecode :=
  ⟨decode_encode (.addi 1 7 2), decode_encode (.bori 0 4294967295 1), decode_encode (.setr 0 99 1),
    decode_encode (.eqri 0 6 7), decode_of_fifteen_lt_opcode (by decide), decode_of_fifteen_lt_opcode (by decide)⟩

/-- A word is the encoding of the instruction it decodes to: the number and the three fields are the whole word. -/
theorem encode_of_decode_eq_instr {w : InstrWord} {i : Instr} (h : decode w = .instr i) : encode i = w := by
  have hpack (op : Field) (hop : (wordOpcode w).toNat = op.toNat) :
      packWord op (wordA w) (wordB w) (wordC w) = w := by
    rw [← BitVec.eq_of_toNat_eq hop, packWord_fields]
  unfold decode at h
  split at h
  case h_17 => cases h
  all_goals
    next hop =>
      cases h
      exact hpack _ hop

/-- The opcode map has an instruction for every number up to 15 (30_encoding.md R84). -/
theorem decode_of_opcode_le_fifteen {w : InstrWord} (h : (wordOpcode w).toNat ≤ 15) : ∃ i, decode w = .instr i := by
  unfold decode
  interval_cases (wordOpcode w).toNat <;> exact ⟨_, rfl⟩

end Sys2Proof

namespace Sys2Proof.Machine

/-- An instruction with a bad index stops the run, whatever the state (30_encoding.md R95). -/
theorem exec_of_not_wellFormed {i : Instr} (s : State) (h : i.wellFormed = false) :
    ∃ fld idx, exec i s = .next (s.indexFault fld idx) := by
  cases hbad : i.firstBadIndex with
  | none => cases h.symm.trans ((firstBadIndex_eq_none_iff i).mp hbad)
  | some p => exact ⟨p.1, p.2, exec_of_firstBadIndex s hbad⟩

/-- Settles O2: the decoder answers an instruction exactly for the numbers up to 15, and its operands are legal or not. -/
theorem everyWordIsClassified : Obligations.EveryWordIsClassified := by
  intro w s
  refine ⟨fun hop => ?_, decode_of_fifteen_lt_opcode⟩
  obtain ⟨i, hd⟩ := decode_of_opcode_le_fifteen hop
  refine ⟨i, hd, encode_of_decode_eq_instr hd, fun hwf => ?_, fun hwf => ?_⟩
  · obtain ⟨-, v, hexec⟩ := exec_of_wellFormed s hwf
    exact ⟨_, hexec, rfl⟩
  · obtain ⟨fld, idx, hexec⟩ := exec_of_not_wellFormed s hwf
    exact ⟨_, hexec, rfl⟩

end Sys2Proof.Machine

/-! Two turns from related states end alike: what the relations of determinism, observability and resuming share
(45_cycle_and_control_flow.md R193, R196; 60_exceptions.md R222). -/

namespace Sys2Proof.Machine

/-- Two outcomes that agree are of one kind. -/
theorem outcomesAgree_iff {R : State → State → Prop} {o o' : Host.Outcome State Fault Refusal} :
    OutcomesAgree R o o' ↔
      (∃ s t, o = .next s ∧ o' = .next t ∧ R s t) ∨ (∃ r, o = .fault r ∧ o' = .fault r) ∨
        ∃ r, o = .refused r ∧ o' = .refused r := by
  cases o <;> cases o' <;> simp [OutcomesAgree, eq_comm]

theorem OutcomesAgree.mono {R Q : State → State → Prop} {o o' : Host.Outcome State Fault Refusal}
    (h : OutcomesAgree R o o') (hRQ : ∀ s t, R s t → Q s t) : OutcomesAgree Q o o' := by
  rcases outcomesAgree_iff.mp h with ⟨s, t, rfl, rfl, hst⟩ | ⟨r, rfl, rfl⟩ | ⟨r, rfl, rfl⟩
  · exact hRQ s t hst
  · rfl
  · rfl

/-- Two runs end alike when their first steps do and the rest of the runs does. -/
theorem core_run_succ_agree {R Q : State → State → Prop} {s t : State} {k : Nat} (h : OutcomesAgree R (step s) (step t))
    (hrest : ∀ u v, step s = .next u → step t = .next v → R u v → OutcomesAgree Q (core.run k u) (core.run k v)) :
    OutcomesAgree Q (core.run (k + 1) s) (core.run (k + 1) t) := by
  rcases outcomesAgree_iff.mp h with ⟨u, v, hu, hv, huv⟩ | ⟨r, hs, ht⟩ | ⟨r, hs, ht⟩
  · rw [core_run_next k hu, core_run_next k hv]
    exact hrest u v hu hv huv
  · rw [core_run_fault k hs, core_run_fault k ht]
    rfl
  · rw [core_run_refused k hs, core_run_refused k ht]
    rfl

/-- A relation of states that every phase of the cycle keeps, and that fixes what the phases read but for the stopping
tests. -/
structure CycleCongruence (R : State → State → Prop) : Prop where
  regs : ∀ {s t}, R s t → s.regs = t.regs
  pc : ∀ {s t}, R s t → s.pc = t.pc
  ipsel : ∀ {s t}, R s t → s.ipsel = t.ipsel
  program : ∀ {s t}, R s t → s.program = t.program
  status : ∀ {s t}, R s t → s.status = t.status
  writeReg : ∀ {s t} r v, R s t → R (s.writeReg r v) (t.writeReg r v)
  stop : ∀ {s t st}, st ≠ .faultRegIdx → R s t → R (s.stop st) (t.stop st)
  takeIndexFault : ∀ {s t} fld idx, R s t → R (s.takeIndexFault fld idx) (t.takeIndexFault fld idx)
  warnUnknown : ∀ {s t} op, R s t → R (s.warnUnknown op) (t.warnUnknown op)
  finishStep : ∀ {s t} ip, R s t → R (s.finishStep ip) (t.finishStep ip)

/-- A relation of states that every turn keeps, the host's as well as the engine's, and that fixes what a turn reads. -/
structure StepCongruence (R : State → State → Prop) : Prop extends CycleCongruence R where
  stopTest : ∀ {s t}, R s t → s.stopTest = t.stopTest
  loaded : ∀ {s t}, R s t → s.loaded = t.loaded
  hostScript : ∀ {s t}, R s t → s.hostScript = t.hostScript
  afterMove : ∀ {s t} rest, R s t → R (s.afterMove rest) (t.afterMove rest)
  hostReset : ∀ {s t}, R s t → R s.hostReset t.hostReset
  loadProgram : ∀ {s t} l, R s t → R (s.loadProgram l) (t.loadProgram l)
  beginRun : ∀ {s t} r p, R s t → R (s.beginRun r p) (t.beginRun r p)
  setRunning : ∀ {s t}, R s t → R s.setRunning t.setRunning
  setCancel : ∀ {s t} level, R s t → R (s.setCancel level) (t.setCancel level)

/-- The stopping tests name no fault (45_cycle_and_control_flow.md R173 to R175). -/
theorem stopTest_ne_faultRegIdx {s : State} {st : Status} (h : s.stopTest = some st) : st ≠ .faultRegIdx := by
  rcases stopTest_cases h with ⟨rfl, -⟩ | ⟨rfl, -⟩ | ⟨rfl, -⟩ <;> nofun

theorem value?_of_regs_eq {s t : State} (h : s.regs = t.regs) (o : Operand) : o.value? s = o.value? t := by
  have hread : s.readReg = t.readReg := by
    funext r
    rw [State.readReg, State.readReg, h]
  cases o with
  | reg f => rw [Operand.value?, Operand.value?, hread]
  | imm f => rfl
  | ignored f => rfl

/-- START from two states ends alike when they pass the same tests and what START then leaves is related. -/
theorem hostStart_agree {R : State → State → Prop} {s t : State} {r : Option RegFile} {p : Option Word}
    (hstatus : s.status = .running ↔ t.status = .running) (hloaded : s.loaded = t.loaded) (hipsel : s.ipsel = t.ipsel)
    (hrun : R (s.beginRun r p).setRunning (t.beginRun r p).setRunning)
    (hfault : ∀ fld idx, R ((s.beginRun r p).takeIndexFault fld idx) ((t.beginRun r p).takeIndexFault fld idx)) :
    OutcomesAgree R (hostStart r p s) (hostStart r p t) := by
  simp only [hostStart, hstatus, hloaded, hipsel]
  split_ifs
  · rfl
  · rfl
  · split
    · exact hfault ..
    · exact hrun

namespace CycleCongruence

variable {R : State → State → Prop} {s t : State}

theorem execute_agree (hR : CycleCongruence R) (h : R s t) (a b : Operand) (c : Field) (result : Word → Word → Word) :
    OutcomesAgree R (execute a b c result s) (execute a b c result t) := by
  simp only [execute, value?_of_regs_eq (hR.regs h)]
  split
  · exact hR.takeIndexFault _ _ h
  · exact hR.takeIndexFault _ _ h
  · exact hR.takeIndexFault _ _ h
  · exact hR.writeReg _ _ h

theorem exec_agree (hR : CycleCongruence R) (h : R s t) (i : Instr) : OutcomesAgree R (exec i s) (exec i t) := by
  cases i <;> exact hR.execute_agree h ..

theorem runDecoded_agree (hR : CycleCongruence R) (h : R s t) (ip : RegIdx) (d : Decoded) :
    OutcomesAgree R (runDecoded ip d s) (runDecoded ip d t) := by
  cases d with
  | unknownOpcode op => exact hR.finishStep ip (hR.warnUnknown op h)
  | instr i =>
    rcases outcomesAgree_iff.mp (hR.exec_agree h i) with ⟨u, v, hu, hv, huv⟩ | ⟨r, hs, ht⟩ | ⟨r, hs, ht⟩
    · simp only [runDecoded, hu, hv, hR.status huv]
      split_ifs
      · exact hR.finishStep ip huv
      · exact huv
    · simp only [runDecoded, hs, ht]
      rfl
    · simp only [runDecoded, hs, ht]
      rfl

theorem cycle_agree (hR : CycleCongruence R) (h : R s t) (hstop : s.stopTest = t.stopTest) :
    OutcomesAgree R (cycle s) (cycle t) := by
  have hmirror (ip : RegIdx) : R (s.writeReg ip s.pc) (t.writeReg ip t.pc) := hR.pc h ▸ hR.writeReg ip s.pc h
  have htest (ip : RegIdx) : (s.writeReg ip s.pc).stopTest = (t.writeReg ip t.pc).stopTest := hstop
  have hfetch (ip : RegIdx) : (s.writeReg ip s.pc).fetch = (t.writeReg ip t.pc).fetch := by
    simp only [State.fetch, State.writeReg_program, State.writeReg_pc, hR.program h, hR.pc h]
  simp only [cycle, hR.ipsel h, htest, hfetch]
  split
  · rfl
  · next ip _ =>
    split
    · next st hst => exact hR.stop (stopTest_ne_faultRegIdx hst) (hmirror ip)
    · split
      · rfl
      · exact hR.runDecoded_agree (hmirror ip) ip _

/-- Two turns of the engine from related states end alike, if the stopping tests answer alike. -/
theorem engineTurn_agree (hR : CycleCongruence R) (h : R s t) (hstop : s.stopTest = t.stopTest) :
    OutcomesAgree R (engineTurn s) (engineTurn t) := by
  simp only [engineTurn, hR.status h]
  split_ifs
  · exact hR.cycle_agree h hstop
  · exact h

end CycleCongruence

namespace StepCongruence

variable {R : State → State → Prop} {s t : State}

theorem hostLoad_agree (hR : StepCongruence R) (h : R s t) (l : LoadArgs) :
    OutcomesAgree R (hostLoad l s) (hostLoad l t) := by
  simp only [hostLoad, hR.status h]
  split_ifs
  · rfl
  · rfl
  · exact hR.loadProgram l h

theorem hostTurn_agree (hR : StepCongruence R) (h : R s t) (m : HostMove) :
    OutcomesAgree R (hostTurn m s) (hostTurn m t) := by
  cases m with
  | wait => exact hR.engineTurn_agree h (hR.stopTest h)
  | reset => exact hR.hostReset h
  | load l => exact hR.hostLoad_agree h l
  | start r p =>
    have hbegin : R (s.beginRun r p) (t.beginRun r p) := hR.beginRun r p h
    exact hostStart_agree (by rw [hR.status h]) (hR.loaded h) (hR.ipsel h) (hR.setRunning hbegin)
      fun fld idx => hR.takeIndexFault fld idx hbegin
  | setCancel level => exact hR.setCancel level h

theorem step_agree (hR : StepCongruence R) (h : R s t) : OutcomesAgree R (step s) (step t) := by
  have hscript : s.hostScript = t.hostScript := hR.hostScript h
  cases ht : t.hostScript with
  | nil =>
    rw [step_engine (hscript.trans ht), step_engine ht]
    exact hR.engineTurn_agree h (hR.stopTest h)
  | cons m rest =>
    rw [step_host (hscript.trans ht), step_host ht]
    exact hR.hostTurn_agree (hR.afterMove rest h) m

/-- Two runs of the same length from related states end alike. -/
theorem core_run_agree (hR : StepCongruence R) (k : Nat) :
    ∀ {s t : State}, R s t → OutcomesAgree R (core.run k s) (core.run k t) := by
  induction k with
  | zero => exact fun h => h
  | succ k ih => exact fun h => core_run_succ_agree (hR.step_agree h) fun _ _ _ _ huv => ih huv

end StepCongruence

/-- The fields that the stopping tests read (45_cycle_and_control_flow.md R173 to R175). -/
theorem stopTest_congr {s t : State} (hpc : s.pc = t.pc) (hprogram : s.program = t.program) (hcancel : s.cancel = t.cancel)
    (hbound : s.atStepBound = t.atStepBound) : s.stopTest = t.stopTest := by
  have houtside : s.pcOutside = t.pcOutside := by simp only [State.pcOutside, hpc, hprogram]
  simp only [State.stopTest, houtside, hcancel, hbound]

end Sys2Proof.Machine

/-! One run owns its state: two machines given the same load and START run alike (45_cycle_and_control_flow.md R193,
70_reset_and_hazards.md R242). -/

namespace Sys2Proof.Machine

/-- Every turn keeps two runs alike: no phase and no move reads an earlier run's records or events. -/
theorem sameRun_stepCongruence : StepCongruence SameRun where
  regs h := h.regs
  pc h := h.pc
  ipsel h := h.ipsel
  program h := h.program
  status h := h.status
  loaded h := h.loaded
  hostScript h := h.hostScript
  stopTest {s t} h := by
    have hbound : s.atStepBound = t.atStepBound := by
      simp only [State.atStepBound, h.maxStepsEn, h.maxSteps, h.steps]
    exact stopTest_congr h.pc h.program h.cancel hbound
  writeReg r v h := { h with regs := congrArg (·.set r v) h.regs }
  stop hst h := { h with status := rfl, fault := fun hfault => absurd hfault hst }
  takeIndexFault fld idx h := { h with status := rfl, fault := fun _ => ⟨h.pc, rfl, rfl⟩ }
  warnUnknown op h :=
    { h with unkF := rfl, unkCnt := congrArg (· + 1) h.unkCnt, unknown := fun _ => ⟨h.pc, rfl⟩ }
  finishStep {s t} ip h :=
    { h with
      pc := by
        have hread : s.readReg ip = t.readReg ip := congrArg (·.get ip) h.regs
        exact congrArg (fun v : Word => wrap64 (v.toInt + 1)) hread
      steps := congrArg (· + 1) h.steps }
  afterMove rest h := { h with hostScript := rfl }
  hostReset h :=
    { ipsel := rfl, program := rfl, maxStepsEn := rfl, maxSteps := rfl, progressN := rfl, loaded := rfl, cancel := h.cancel,
      regs := rfl, pc := rfl, steps := rfl, status := rfl, fault := nofun, unkF := rfl, unkCnt := rfl, unknown := nofun,
      hostScript := h.hostScript }
  loadProgram l h :=
    { h with
      ipsel := rfl
      program := rfl
      maxStepsEn := rfl
      maxSteps := congrArg l.maxSteps.getD h.maxSteps
      progressN := rfl
      status := rfl
      fault := nofun
      loaded := rfl }
  beginRun r p h :=
    { h with regs := rfl, pc := rfl, steps := rfl, unkF := rfl, unkCnt := rfl, unknown := nofun }
  setRunning h := { h with status := rfl, fault := nofun }
  setCancel level h := { h with cancel := rfl }

/-- START overwrites all that two machines with the same load can differ in, but UNKPC and UNKOP, which are not valid
then (70_reset_and_hazards.md R242, R243). -/
theorem hostStart_agree_of_sameLoad {s t : State} (h : SameLoad s t) (hscript : s.hostScript = t.hostScript)
    (hs : s.status ≠ .running) (ht : t.status ≠ .running) (r : Option RegFile) (p : Option Word) :
    OutcomesAgree SameRun (hostStart r p s) (hostStart r p t) := by
  have hrun : SameRun (s.beginRun r p).setRunning (t.beginRun r p).setRunning :=
    { h with
      regs := rfl, pc := rfl, steps := rfl, status := rfl, fault := nofun, unkF := rfl, unkCnt := rfl, unknown := nofun
      hostScript := hscript }
  exact hostStart_agree (iff_of_false hs ht) h.loaded h.ipsel hrun
    fun _ _ => { hrun with status := rfl, fault := fun _ => ⟨rfl, rfl, rfl⟩ }

/-- The read-out shows the records only where two like runs agree on them (10_state.md R33, R34, R42). -/
theorem SameRun.readOut_eq {s t : State} (h : SameRun s t) : s.readOut = t.readOut := by
  have hfault : (if s.status = .faultRegIdx then some (⟨s.faultPc, s.faultIdx, s.faultFld⟩ : FaultRecord) else none) =
      if s.status = .faultRegIdx then some ⟨t.faultPc, t.faultIdx, t.faultFld⟩ else none := by
    refine if_ctx_congr Iff.rfl (fun hst => ?_) fun _ => rfl
    obtain ⟨hpc, hidx, hfld⟩ := h.fault hst
    rw [hpc, hidx, hfld]
  have hunknown : (if s.unkF then some (⟨s.unkCnt, s.unkPc, s.unkOp⟩ : UnknownRecord) else none) =
      if s.unkF then some ⟨t.unkCnt, t.unkPc, t.unkOp⟩ else none := by
    refine if_ctx_congr Iff.rfl (fun hflag => ?_) fun _ => rfl
    obtain ⟨hpc, hop⟩ := h.unknown hflag
    rw [h.unkCnt, hpc, hop]
  rw [State.readOut, State.readOut, hfault, hunknown, h.regs, h.steps, h.pc, h.status, h.unkF]

/-- Settles O58: START makes the two runs alike (`hostStart_agree_of_sameLoad`), and every later step keeps them so. -/
theorem startForgetsEarlierRuns : Obligations.StartForgetsEarlierRuns := by
  intro k s t r p script h hs ht
  have hload : SameLoad (s.afterMove script) (t.afterMove script) := { h with }
  have hstart :
      OutcomesAgree SameRun (step (s.afterMove (.start r p :: script))) (step (t.afterMove (.start r p :: script))) :=
    hostStart_agree_of_sameLoad hload rfl hs ht r p
  exact core_run_succ_agree hstart fun u v _ _ huv =>
    (sameRun_stepCongruence.core_run_agree k huv).mono fun _ _ hlike => ⟨hlike, hlike.readOut_eq⟩

end Sys2Proof.Machine

/-! The progress interval and the history of events are read by nothing (45_cycle_and_control_flow.md R193,
60_exceptions.md R222). -/

namespace Sys2Proof.Machine

/-- The second state is the first but for PROGRESS_N and the events; since the histories `e` and `e'` the two have put out
the same warn events. -/
def HookDiffers (e e' : List Event) (u v : State) : Prop :=
  ∃ n l l', v = { u with progressN := n, events := e' ++ l' } ∧ u.events = e ++ l ∧ warnings l = warnings l'

/-- Phase 12 puts out no warn event. -/
theorem warnings_progressEvents (s : State) : warnings s.progressEvents = [] := by
  rw [State.progressEvents]
  split_ifs <;> rfl

/-- Events put out by both keep the relation, if the warn events among them are the same. -/
theorem HookDiffers.append_events {e e' m m' : List Event} {u v : State} (h : HookDiffers e e' u v)
    (hm : warnings m = warnings m') :
    HookDiffers e e' { u with events := u.events ++ m } { v with events := v.events ++ m' } := by
  obtain ⟨n, l, l', rfl, hu, hw⟩ := h
  refine ⟨n, l ++ m, l' ++ m', ?_, ?_, ?_⟩
  · rw [List.append_assoc]
  · rw [hu, List.append_assoc]
  · rw [warnings_append, warnings_append, hw, hm]

/-- Every turn keeps two runs alike but for PROGRESS_N and the events: a warning is put out by both, a progress event by
one or both. -/
theorem hookDiffers_stepCongruence (e e' : List Event) : StepCongruence (HookDiffers e e') where
  regs := fun ⟨_, _, _, hv, _⟩ => hv ▸ rfl
  pc := fun ⟨_, _, _, hv, _⟩ => hv ▸ rfl
  ipsel := fun ⟨_, _, _, hv, _⟩ => hv ▸ rfl
  program := fun ⟨_, _, _, hv, _⟩ => hv ▸ rfl
  status := fun ⟨_, _, _, hv, _⟩ => hv ▸ rfl
  loaded := fun ⟨_, _, _, hv, _⟩ => hv ▸ rfl
  hostScript := fun ⟨_, _, _, hv, _⟩ => hv ▸ rfl
  stopTest := fun ⟨_, _, _, hv, _⟩ => hv ▸ rfl
  writeReg := fun _ _ ⟨n, l, l', hv, hu, hw⟩ => ⟨n, l, l', hv ▸ rfl, hu, hw⟩
  stop := fun _ ⟨n, l, l', hv, hu, hw⟩ => ⟨n, l, l', hv ▸ rfl, hu, hw⟩
  takeIndexFault := fun _ _ ⟨n, l, l', hv, hu, hw⟩ => ⟨n, l, l', hv ▸ rfl, hu, hw⟩
  warnUnknown {s _} op h := by
    obtain ⟨n, l, l', rfl, hu, hw⟩ := h
    have hrecord : HookDiffers e e' { s with unkF := true, unkCnt := s.unkCnt + 1, unkPc := s.pc, unkOp := op }
        { s with unkF := true, unkCnt := s.unkCnt + 1, unkPc := s.pc, unkOp := op, progressN := n, events := e' ++ l' } :=
      ⟨n, l, l', rfl, hu, hw⟩
    exact hrecord.append_events (m := [.warn s.pc op]) rfl
  finishStep {s t} ip h := by
    obtain ⟨n, l, l', hv, hu, hw⟩ := h
    have hcounted : HookDiffers e e' (s.latch ip).count (t.latch ip).count := ⟨n, l, l', hv ▸ rfl, hu, hw⟩
    exact hcounted.append_events (by rw [warnings_progressEvents, warnings_progressEvents])
  afterMove := fun _ ⟨n, l, l', hv, hu, hw⟩ => ⟨n, l, l', hv ▸ rfl, hu, hw⟩
  hostReset := fun ⟨_, l, l', hv, hu, hw⟩ => ⟨0, l, l', hv ▸ rfl, hu, hw⟩
  loadProgram := fun a ⟨_, l, l', hv, hu, hw⟩ => ⟨a.progressN.getD 0, l, l', hv ▸ rfl, hu, hw⟩
  beginRun := fun _ _ ⟨n, l, l', hv, hu, hw⟩ => ⟨n, l, l', hv ▸ rfl, hu, hw⟩
  setRunning := fun ⟨n, l, l', hv, hu, hw⟩ => ⟨n, l, l', hv ▸ rfl, hu, hw⟩
  setCancel := fun _ ⟨n, l, l', hv, hu, hw⟩ => ⟨n, l, l', hv ▸ rfl, hu, hw⟩

/-- Settles O59: every step keeps `HookDiffers`, of which the statement's relation is a part. -/
theorem progressHookIsNotAControlDependency : Obligations.ProgressHookIsNotAControlDependency := by
  intro k s n e
  have hstart : HookDiffers s.events e s { s with progressN := n, events := e } := ⟨n, [], [], by simp, by simp, rfl⟩
  refine ((hookDiffers_stepCongruence s.events e).core_run_agree k hstart).mono ?_
  rintro u - ⟨m, l, l', rfl, hu, hw⟩
  exact ⟨rfl, l, l', hu, rfl, hw⟩

end Sys2Proof.Machine

/-! A cancelled or bounded run is continued by a START with its registers and pc (45_cycle_and_control_flow.md R196). -/

namespace Sys2Proof.Machine

/-- A binding above 5 is no register: the cycle has no next state (log entry 13). -/
theorem cycle_of_bad_binding {s : State} (h : 5 < s.ipsel.toNat) : cycle s = .fault .noInstructionPointerRegister := by
  simp only [cycle, ipIndex?_eq_none h]

/-- A turn of the engine that answers a next state is a turn at rest or a cycle with a legal binding. -/
theorem step_engine_cases {s t : State} (hscript : s.hostScript = []) (h : step s = .next t) :
    (s.status ≠ .running ∧ t = s) ∨ EngineRuns s := by
  by_cases hrun : s.status = .running
  · refine .inr ⟨hrun, hscript, Nat.le_of_not_lt fun hip => ?_⟩
    rw [step_engine hscript, engineTurn_running hrun, cycle_of_bad_binding hip] at h
    cases h
  · cases (step_still hrun hscript).symm.trans h
    exact .inl ⟨hrun, rfl⟩

/-- A turn of the engine counts at most one step. -/
theorem steps_le_of_step {s t : State} (hscript : s.hostScript = []) (h : step s = .next t) :
    t.steps.toNat ≤ s.steps.toNat + 1 := by
  rcases step_engine_cases hscript h with ⟨-, rfl⟩ | hrun
  · exact Nat.le_succ _
  · rw [stepsCountsCompletedSteps s t hrun h]
    split_ifs <;> omega

/-- The two states are at the same point of one computation, and both go on without a bound and without a host move. -/
structure ContinuesFrom (n : Word) (s t : State) : Prop extends ResumedAt n s t where
  cancel : s.cancel = t.cancel
  unbounded : s.maxStepsEn = false ∧ t.maxStepsEn = false
  noMoves : s.hostScript = [] ∧ t.hostScript = []

/-- Every phase of the cycle keeps the two at the same point, and counts on both. -/
theorem continuesFrom_cycleCongruence (n : Word) : CycleCongruence (ContinuesFrom n) where
  regs h := h.regs
  pc h := h.pc
  ipsel h := h.ipsel
  program h := h.program
  status h := h.status
  writeReg r v h := { h with regs := congrArg (·.set r v) h.regs }
  stop hst h := { h with status := rfl, fault := fun hfault => absurd hfault hst }
  takeIndexFault fld idx h := { h with status := rfl, fault := fun _ => ⟨h.pc, rfl, rfl⟩ }
  warnUnknown op h := { h with }
  finishStep {s t} ip h :=
    { h with
      pc := by
        have hread : s.readReg ip = t.readReg ip := congrArg (·.get ip) h.regs
        exact congrArg (fun v : Word => wrap64 (v.toInt + 1)) hread
      steps := by
        have hsteps : s.steps + 1 = n + (t.steps + 1) := by rw [h.steps, BitVec.add_assoc]
        exact hsteps }

/-- Without a bound only the counter's own limit is one (45_cycle_and_control_flow.md R175). -/
theorem atStepBound_of_unbounded {s : State} (hen : s.maxStepsEn = false) (hsteps : s.steps.toNat < 2 ^ 64 - 1) :
    s.atStepBound = false := by
  simp only [State.atStepBound, hen, Bool.false_and, Bool.false_or, decide_eq_false_iff_not]
  omega

/-- While both counters stay below the limit, two runs at the same point of one computation stay so. -/
theorem core_run_continuesFrom (n : Word) (k : Nat) :
    ∀ {s t : State}, ContinuesFrom n s t → s.steps.toNat + k < 2 ^ 64 - 1 → t.steps.toNat + k < 2 ^ 64 - 1 →
      OutcomesAgree (ContinuesFrom n) (core.run k s) (core.run k t) := by
  induction k with
  | zero => exact fun h _ _ => h
  | succ k ih =>
    intro s t h hs ht
    obtain ⟨hens, hent⟩ := h.unbounded
    obtain ⟨hscripts, hscriptt⟩ := h.noMoves
    have hbound : s.atStepBound = t.atStepBound := by
      rw [atStepBound_of_unbounded hens (by omega), atStepBound_of_unbounded hent (by omega)]
    have hstop : s.stopTest = t.stopTest := stopTest_congr h.pc h.program h.cancel hbound
    have hstep : OutcomesAgree (ContinuesFrom n) (step s) (step t) := by
      rw [step_engine hscripts, step_engine hscriptt]
      exact (continuesFrom_cycleCongruence n).engineTurn_agree h hstop
    refine core_run_succ_agree hstep fun u v hu hv huv => ih huv ?_ ?_
    · have hcount := steps_le_of_step hscripts hu
      omega
    · have hcount := steps_le_of_step hscriptt hv
      omega

/-- The LOAD that resumes a run: its own binding and program, and no bound (45_cycle_and_control_flow.md R196). -/
def State.reload (s : State) : LoadArgs := ⟨s.ipsel, s.program, none, none⟩

/-- The state after CANCEL is cleared, the same program is loaded with no bound and the run is started with its own
registers and `pc` (45_cycle_and_control_flow.md R196). -/
def State.resumed (s : State) : State :=
  ((((s.setCancel false).loadProgram s.reload).beginRun (some s.regs) (some s.pc)).setRunning).afterMove []

/-- A stopped run with a legal binding and a program that fits is resumed by three moves of the host. -/
theorem core_run_resume {s : State} (hstore : Memory.wf s.program = true) (hbinding : s.ipsel.toNat ≤ 5)
    (hst : s.status ≠ .running) (k : Nat) :
    core.run (k + 3) (s.afterMove [.setCancel false, .load s.reload, .start (some s.regs) (some s.pc)]) =
      core.run k s.resumed := by
  have hcancel : step (s.afterMove [.setCancel false, .load s.reload, .start (some s.regs) (some s.pc)]) =
      .next ((s.setCancel false).afterMove [.load s.reload, .start (some s.regs) (some s.pc)]) := rfl
  have hload : step ((s.setCancel false).afterMove [.load s.reload, .start (some s.regs) (some s.pc)]) =
      .next (((s.setCancel false).loadProgram s.reload).afterMove [.start (some s.regs) (some s.pc)]) :=
    hostLoad_of_fits (s := (s.setCancel false).afterMove _) hst ((memory_wf_iff _).mp hstore)
  have hstart : step (((s.setCancel false).loadProgram s.reload).afterMove [.start (some s.regs) (some s.pc)]) =
      .next s.resumed :=
    hostStart_of_legal_binding (s := ((s.setCancel false).loadProgram s.reload).afterMove []) _ _ nofun rfl hbinding
  rw [core_run_next _ hcancel, core_run_next _ hload, core_run_next _ hstart]

/-- Settles O60: the three moves bring the resumed run to the point where the other is (`core_run_resume`), and the two go
on together (`core_run_continuesFrom`). -/
theorem resumedRunContinuesTheComputation : Obligations.ResumedRunContinuesTheComputation := by
  intro k s hinv hst hlimit
  obtain ⟨hnotRunning, hstopped, hnotFault⟩ :
      s.status ≠ .running ∧ s.status.stopped = true ∧ s.status ≠ .faultRegIdx := by
    rcases hst with h | h <;> rw [h] <;> decide
  obtain ⟨hbinding, -⟩ := hinv.mirror hstopped fun ⟨hfault, _⟩ => hnotFault hfault
  have hmoves := core_run_resume hinv.store hbinding hnotRunning k
  have hresumed : ContinuesFrom s.steps
      { s with status := .running, cancel := false, maxStepsEn := false, hostScript := [] } s.resumed :=
    { regs := rfl, pc := rfl, status := rfl, ipsel := rfl, program := rfl, steps := (BitVec.add_zero s.steps).symm,
      fault := nofun, cancel := rfl, unbounded := ⟨rfl, rfl⟩, noMoves := ⟨rfl, rfl⟩ }
  have hzero : s.resumed.steps.toNat = 0 := rfl
  have hagree := (core_run_continuesFrom s.steps k hresumed hlimit (by omega)).mono fun _ _ h => h.toResumedAt
  rw [← hmoves, Nat.add_comm k 3] at hagree
  exact hagree

end Sys2Proof.Machine

/-! The results of the bitwise instructions bit by bit, and of the comparisons (41_bitwise.md R134, 43_compare.md R156). -/

namespace Sys2Proof.Machine

/-- Zero extension keeps every bit of the field, and its bits 63..32 are 0 (30_encoding.md R89). -/
theorem getLsbD_zext64 (f : Field) (i : Nat) : (zext64 f).getLsbD i = f.getLsbD i := by
  rw [zext64, BitVec.getLsbD_setWidth, Bool.and_eq_right_iff_imp, decide_eq_true_eq]
  intro hbit
  have hlt : i < 32 := BitVec.lt_of_getLsbD hbit
  omega

/-- An AND with a zero-extended field is a value of the field's range (41_bitwise.md R134). -/
theorem toInt_bitAnd_zext64 (u : Word) (f : Field) :
    0 ≤ (bitAnd u (zext64 f)).toInt ∧ (bitAnd u (zext64 f)).toInt ≤ 4294967295 := by
  have hle : (bitAnd u (zext64 f)).toNat ≤ (zext64 f).toNat := by
    rw [bitAnd, BitVec.toNat_and]
    exact Nat.and_le_right
  have hzext : (zext64 f).toNat = f.toNat := BitVec.toNat_setWidth_of_le (by decide)
  have hf := f.isLt
  rw [BitVec.toInt_eq_toNat_of_lt (by omega)]
  omega

/-- Settles O26: the outcomes are those of the classes RR and RI, and the operators act on each bit. -/
theorem bitwiseResultsBitByBit : Obligations.BitwiseResultsBitByBit := by
  intro s a b c ha hc
  have hregister (result : Word → Word → Word) (hb : IsReg b) :
      execute (.reg a) (.reg b) c result s = .next (s.withX c (result (s.x a) (s.x b))) :=
    execute_ok (value?_reg ha) (value?_reg hb) hc
  have himmediate (result : Word → Word → Word) :
      execute (.reg a) (.imm b) c result s = .next (s.withX c (result (s.x a) (zext64 b))) :=
    execute_ok (value?_reg ha) (value?_imm s b) hc
  have hor (i : Nat) : (bitOr (s.x a) (zext64 b)).getLsbD i = ((s.x a).getLsbD i || b.getLsbD i) := by
    rw [bitOr, BitVec.getLsbD_or, getLsbD_zext64]
  obtain ⟨hlow, hhigh⟩ := toInt_bitAnd_zext64 (s.x a) b
  refine ⟨fun hb => ⟨_, hregister bitAnd hb, fun i => BitVec.getLsbD_and⟩,
    fun hb => ⟨_, hregister bitOr hb, fun i => BitVec.getLsbD_or⟩,
    ⟨_, himmediate bitAnd, hlow, hhigh, fun i => ?bani⟩, ⟨_, himmediate bitOr, hor, fun i hi => ?bori⟩⟩
  case bani => rw [bitAnd, BitVec.getLsbD_and, getLsbD_zext64]
  case bori => rw [hor, BitVec.getLsbD_of_ge b i hi, Bool.or_false]

/-- The condition as a word is exactly 0 or 1 (43_compare.md R156). -/
theorem conditionWord_eq_zero_or_one (cond : Bool) : conditionWord cond = 0 ∨ conditionWord cond = 1 := by
  cases cond
  · exact .inl rfl
  · exact .inr rfl

/-- Settles O27: with its checked indices legal, each comparison writes a condition word. -/
theorem comparisonWritesZeroOrOne : Obligations.ComparisonWritesZeroOrOne := by
  intro s a b c i hi hwf
  have hgreater (u v : Word) : greaterThan u v = 0 ∨ greaterThan u v = 1 := conditionWord_eq_zero_or_one _
  have hequal (u v : Word) : equalTo u v = 0 ∨ equalTo u v = 1 := conditionWord_eq_zero_or_one _
  rcases hi with rfl | rfl | rfl | rfl | rfl | rfl <;>
    simp only [wellFormed_iff, Instr.indexFields, List.forall_mem_cons] at hwf
  · obtain ⟨hb, hc, -⟩ := hwf
    exact ⟨_, execute_ok (value?_imm s a) (value?_reg hb) hc, hgreater ..⟩
  · obtain ⟨ha, hc, -⟩ := hwf
    exact ⟨_, execute_ok (value?_reg ha) (value?_imm s b) hc, hgreater ..⟩
  · obtain ⟨ha, hb, hc, -⟩ := hwf
    exact ⟨_, execute_ok (value?_reg ha) (value?_reg hb) hc, hgreater ..⟩
  · obtain ⟨hb, hc, -⟩ := hwf
    exact ⟨_, execute_ok (value?_imm s a) (value?_reg hb) hc, hequal ..⟩
  · obtain ⟨ha, hc, -⟩ := hwf
    exact ⟨_, execute_ok (value?_reg ha) (value?_imm s b) hc, hequal ..⟩
  · obtain ⟨ha, hb, hc, -⟩ := hwf
    exact ⟨_, execute_ok (value?_reg ha) (value?_reg hb) hc, hequal ..⟩

end Sys2Proof.Machine

/-! A step of a decoded instruction, the jumps, and the latch at the top of the range (45_cycle_and_control_flow.md R171,
R181, R186 to R188; 10_state.md R26). -/

namespace Sys2Proof.Machine

/-- Settles O28: the two outcomes of an instruction, a write that lets the run go on and an index fault that stops it. -/
theorem stepRunsTheDecodedInstruction : Obligations.StepRunsTheDecodedInstruction := by
  intro s w i hs hw hd
  have hstatus : s.mirrored.status = .running := hs.1.1
  rcases exec_cases i s.mirrored with ⟨v, hexec⟩ | ⟨fld, idx, hexec⟩
  · rw [step_of_exec_withX hs hw hd hexec, hexec]
    exact (if_pos hstatus).symm
  · rw [step_of_exec_stopped hs hw hd hexec nofun, hexec]
    rfl

/-- Settles O29: a well-formed instruction writes its destination, and the end of the step leaves STATUS alone. -/
theorem wellFormedStepCompletes : Obligations.WellFormedStepCompletes := by
  intro s w i hs hw hd hwf
  obtain ⟨-, v, hexec, hstep⟩ := step_of_wellFormed hs hw hd hwf
  exact ⟨v, hexec, hstep, hs.1.1⟩

/-- An instruction that writes `v` to `x[IPSEL]` continues at `v + 1` (45_cycle_and_control_flow.md R185). -/
theorem step_pc_of_execute_ip {s : State} {w : InstrWord} {i : Instr} {a b : Operand} {result : Word → Word → Word}
    {u v : Word} (hs : Steppable s) (hw : s.program[s.pc.toNat]? = some w) (hd : decode w = .instr i)
    (hi : exec i s.mirrored = execute a b s.ipField result s.mirrored) (ha : a.value? s.mirrored = some u)
    (hb : b.value? s.mirrored = some v) :
    ∃ t, step s = .next t ∧ t.pc = wrap64 ((result u v).toInt + 1) := by
  have ⟨⟨_, _, hbinding⟩, _⟩ := hs
  have hip : IsReg s.ipField := isReg_ipField hbinding
  exact ⟨_, step_of_exec_withX hs hw hd (hi.trans (execute_ok ha hb hip)),
    stepEnded_pc_of_x (x_withX_same s.mirrored (result u v) hip)⟩

/-- Wrapping a sum and going on by one wraps once (45_cycle_and_control_flow.md R181). -/
theorem wrap64_toInt_sum_add_one (u v : Word) : wrap64 ((sum u v).toInt + 1) = wrap64 (u.toInt + v.toInt + 1) := by
  simp only [sum, wrap64, BitVec.ofInt_add, BitVec.ofInt_toInt]

/-- Settles O40: each form writes `x[IPSEL]` from operands the mirrored state holds, and the latch adds one. -/
theorem jumpFormsReachTheirTargets : Obligations.JumpFormsReachTheirTargets := by
  intro s w r k hs hw
  have ⟨⟨_, _, hbinding⟩, _⟩ := hs
  have hpc : (Operand.reg s.ipField).value? s.mirrored = some s.pc := by
    rw [value?_reg (isReg_ipField hbinding), mirrored_x_ipField_of_engineRuns hs.1]
  have hreg (hr : IsReg r) (hne : r ≠ s.ipField) : (Operand.reg r).value? s.mirrored = some (s.x r) := by
    rw [value?_reg hr, x_mirrored s hr, if_neg hne]
  have hskip (hr : IsReg r) (hne : r ≠ s.ipField) (hd : decode w = .instr (.addr r s.ipField s.ipField)) :
      ∃ t, step s = .next t ∧ t.pc = wrap64 ((s.x r).toInt + s.pc.toInt + 1) := by
    rw [← wrap64_toInt_sum_add_one]
    exact step_pc_of_execute_ip hs hw hd rfl (hreg hr hne) hpc
  refine ⟨?seti, ?setr, ?addi, ?addr, fun hr hne hd => ⟨?noSkip, ?skip⟩⟩
  case seti =>
    intro hd
    rw [← toInt_zext64]
    exact step_pc_of_execute_ip (result := first) hs hw hd rfl (value?_imm _ k) (value?_ignored _ r)
  case setr =>
    intro hr hne hd
    exact step_pc_of_execute_ip (result := first) hs hw hd rfl (hreg hr hne) (value?_ignored _ k)
  case addi =>
    intro hd
    rw [← toInt_zext64, ← wrap64_toInt_sum_add_one]
    exact step_pc_of_execute_ip hs hw hd rfl hpc (value?_imm _ k)
  case addr =>
    intro hr hne hd
    rw [← wrap64_toInt_sum_add_one]
    exact step_pc_of_execute_ip hs hw hd rfl hpc (hreg hr hne)
  case noSkip =>
    intro hzero
    simpa [hzero] using hskip hr hne hd
  case skip =>
    intro hone
    have htarget : (s.x r).toInt + s.pc.toInt + 1 = s.pc.toInt + 2 := by
      rw [hone, show (1 : Word).toInt = 1 from rfl]
      omega
    rw [← htarget]
    exact hskip hr hne hd

/-- Settles O41: the latch wraps `2^63` to `-2^63`, which is outside every program, so the next cycle halts. -/
theorem latchAtTopOfRangeLeadsToHalt : Obligations.LatchAtTopOfRangeLeadsToHalt := by
  intro s w i u hs hw hd hwf hexec htop
  obtain ⟨-, v, hwrite, hstep⟩ := step_of_wellFormed hs hw hd hwf
  cases hwrite.symm.trans hexec
  have hpc : (s.mirrored.withX i.dest v).stepEnded.pc.toInt = -2 ^ 63 := by
    have hip : (s.mirrored.withX i.dest v).ipField = s.ipField := rfl
    rw [State.stepEnded_pc, hip, htop]
    rfl
  have hout : ¬PcInside (s.mirrored.withX i.dest v).stepEnded := by
    rintro ⟨hpos, -⟩
    omega
  exact ⟨_, _, hstep, hpc, leavingTheProgramHalts (s.mirrored.withX i.dest v).stepEnded hs.1 hout, rfl⟩

end Sys2Proof.Machine

/-! The host's side: its wait and its refused moves, the read-out, and the placing of a word (10_state.md R33, R34, R42,
R43; log entries 7, 8, 15, 19, 22). -/

namespace Sys2Proof.Machine

/-- The second state is the first with the moves `rest` of the host still to come. -/
def MovesPending (rest : List HostMove) (s t : State) : Prop := t = s.afterMove rest

/-- No phase of the cycle reads the host's coming moves (log entry 8). -/
theorem movesPending_cycleCongruence (rest : List HostMove) : CycleCongruence (MovesPending rest) where
  regs := by rintro s - rfl; rfl
  pc := by rintro s - rfl; rfl
  ipsel := by rintro s - rfl; rfl
  program := by rintro s - rfl; rfl
  status := by rintro s - rfl; rfl
  writeReg := by rintro s - r v rfl; rfl
  stop := by rintro s - st - rfl; rfl
  takeIndexFault := by rintro s - fld idx rfl; rfl
  warnUnknown := by rintro s - op rfl; rfl
  finishStep := by rintro s - ip rfl; rfl

/-- A wait of the host is the engine's step with no move to come, but for the moves that follow (log entry 8). -/
theorem step_wait_agree {s : State} {rest : List HostMove} (hscript : s.hostScript = .wait :: rest) :
    OutcomesAgree (MovesPending rest) (step (s.afterMove [])) (step s) := by
  rw [step_engine (s := s.afterMove []) rfl, step_host hscript]
  exact (movesPending_cycleCongruence rest).engineTurn_agree (s := s.afterMove []) (t := s.afterMove rest) rfl rfl

/-- Settles O52: a wait by `step_wait_agree`, the line's move by definition, and each refusal by the test it fails. -/
theorem hostWaitCancelLineAndRefusals : Obligations.HostWaitCancelLineAndRefusals := by
  refine ⟨?wait, fun s b rest hscript => step_host hscript, fun s l rest hscript => ⟨?_, ?_⟩,
    fun s r p rest hscript => ⟨?_, ?_⟩⟩
  case wait =>
    intro s rest hscript
    rcases outcomesAgree_iff.mp (step_wait_agree hscript) with ⟨u, v, hu, hv, rfl⟩ | ⟨r, hs, ht⟩ | ⟨r, hs, ht⟩
    · rw [hv, show step { s with hostScript := [] } = .next u from hu]
      rfl
    · rw [ht, show step { s with hostScript := [] } = .fault r from hs]
    · rw [ht, show step { s with hostScript := [] } = .refused r from hs]
  · exact fun hrun => step_load_refused_of_running hrun hscript
  · exact fun hst hlen => (step_host hscript).trans (hostLoad_refused_of_too_long (s := s.afterMove rest) hst hlen)
  · exact fun hrun => (step_host hscript).trans (hostStart_refused_of_running (s := s.afterMove rest) r p hrun)
  · exact fun hst hloaded =>
      (step_host hscript).trans (hostStart_refused_of_not_loaded (s := s.afterMove rest) r p hst hloaded)

/-- A run that has stopped has a STATUS of 2 or more (10_state.md R32, 45_cycle_and_control_flow.md R192). -/
theorem stopped_iff_two_le_code (st : Status) : st.stopped = true ↔ 2 ≤ st.code.toNat := by
  cases st <;> decide

/-- Settles O53: the read-out's fields as `State.readOut` gives them, in the stopped states only. -/
theorem readOutOfStoppedRun : Obligations.ReadOutOfStoppedRun := by
  intro s
  have hstopped : s.status.stopped = true ↔ 2 ≤ s.status.code.toNat := stopped_iff_two_le_code s.status
  by_cases h : s.status.stopped = true
  · have hcode := hstopped.mp h
    simp only [State.readOut, if_pos h]
    refine ⟨iff_of_false nofun (by omega), ?_⟩
    rintro o ⟨⟩
    exact ⟨rfl, rfl, rfl, rfl, rfl, rfl⟩
  · have hcode := mt hstopped.mpr h
    simp only [State.readOut, if_neg h]
    exact ⟨iff_of_true trivial (by omega), nofun⟩

/-- A `pc` inside the program is the index of a word (20_memory.md R63). -/
theorem toNat_pc_lt_of_pcInside {s : State} (h : PcInside s) : s.pc.toNat < s.program.length := by
  obtain ⟨hpos, hlt⟩ := h
  have heq : s.pc.toInt = s.pc.toNat := BitVec.toInt_eq_toNat_of_lt (BitVec.toInt_pos_iff.mp hpos)
  omega

section placed

variable (s : State) (w : InstrWord)

/-- The placed word stands at an index of the program, and is the word there (20_memory.md R62, R63). -/
theorem placeForFetch_fetch :
    PcInside (s.placeForFetch w) ∧ (s.placeForFetch w).program[(s.placeForFetch w).pc.toNat]? = some w := by
  by_cases hout : s.pcOutside = true
  · simp [PcInside, State.placeForFetch, hout]
  · have hin : PcInside s := by
      by_contra h
      exact hout ((pcOutside_iff s).mpr h)
    have hindex : s.pc.toNat < s.program.length := toNat_pc_lt_of_pcInside hin
    obtain ⟨hpos, hlt⟩ := hin
    simp [PcInside, State.placeForFetch, hout, hpos, hlt, hindex]

/-- The placing clears a bound that is reached (45_cycle_and_control_flow.md R175). -/
theorem placeForFetch_not_boundReached : ¬BoundReached (s.placeForFetch w) := by
  have hsteps : (s.placeForFetch w).steps = if s.steps.toNat = 2 ^ 64 - 1 then 0 else s.steps := rfl
  rintro (⟨hen, hle⟩ | hlimit)
  · obtain ⟨hbounded, hfree⟩ : s.maxStepsEn = true ∧ s.atStepBound = false := by
      simpa [State.placeForFetch] using hen
    have hnot : ¬BoundReached s := fun h => by cases hfree.symm.trans ((atStepBound_iff s).mpr h)
    rw [hsteps, if_neg fun h => hnot (.inr h)] at hle
    exact hnot (.inl ⟨hbounded, hle⟩)
  · rw [hsteps] at hlimit
    split_ifs at hlimit with h
    · cases hlimit
    · exact h hlimit

theorem placeForFetch_binding : (s.placeForFetch w).ipsel.toNat ≤ 5 := by
  simp only [State.placeForFetch]
  split_ifs with h
  · by_contra hip
    rw [ipIndex?_eq_none (by omega)] at h
    cases h
  · decide

theorem placeForFetch_steppable : Steppable (s.placeForFetch w) :=
  ⟨⟨rfl, rfl, placeForFetch_binding s w⟩, (placeForFetch_fetch s w).1, rfl, placeForFetch_not_boundReached s w⟩

end placed

/-- Settles O54: the placed state passes the stopping tests and fetches the word, so the step is that of the decoded
word. -/
theorem placedWordIsFetchedNext : Obligations.PlacedWordIsFetchedNext := by
  intro s w hlt
  have hword : s.withFetchWord 128 w = s.placeForFetch (BitVec.ofNat 128 w) := by
    rw [State.withFetchWord, tableWord, Nat.mod_eq_of_lt hlt]
  rw [hword]
  have hs := placeForFetch_steppable s (BitVec.ofNat 128 w)
  obtain ⟨-, hfetch⟩ := placeForFetch_fetch s (BitVec.ofNat 128 w)
  exact ⟨hs, hfetch, rfl, fun i hd => stepRunsTheDecodedInstruction _ _ i hs hfetch hd,
    fun op hd => step_unknownOpcode hs hfetch hd⟩

end Sys2Proof.Machine

/-! The history of events, the invariant of all runs, and that no step faults under it (10_state.md R27, R30, R33, R34,
R42; 20_memory.md R63; 60_exceptions.md R203 to R209, R221, R222). -/

namespace Sys2Proof.Machine

/-- The events of one step, in program order: at most a warning, and after it at most a progress event. -/
def IsStepEvents (l : List Event) : Prop :=
  l = [] ∨ (∃ p o, l = [.warn p o]) ∨ (∃ n r q, l = [.progress n r q]) ∨
    ∃ p o n r q, l = [.warn p o, .progress n r q]

/-- The end of a step puts out at most a progress event (60_exceptions.md R222). -/
theorem stepEnded_events_cases (t : State) :
    t.stepEnded.events = t.events ∨ ∃ n r q, t.stepEnded.events = t.events ++ [.progress n r q] := by
  rw [stepEnded_events_eq_ite]
  split_ifs
  · exact .inr ⟨_, _, _, rfl⟩
  · exact .inl rfl

/-- A step in which the engine runs puts out a step's events. -/
theorem engine_step_events {s t : State} (hrun : EngineRuns s) (hstep : step s = .next t) :
    ∃ l, t.events = s.events ++ l ∧ IsStepEvents l := by
  rcases step_cases hrun hstep with
    ⟨st, -, rfl⟩ | ⟨-, w, -, ⟨op, -, rfl⟩ | ⟨i, -, ⟨v, -, rfl⟩ | ⟨fld, idx, -, rfl⟩⟩⟩
  case inl => exact ⟨[], (List.append_nil _).symm, .inl rfl⟩
  case inr.inl =>
    rcases stepEnded_events_cases (s.mirrored.unknownWarned op) with h | ⟨n, r, q, h⟩
    · exact ⟨_, h, .inr (.inl ⟨_, _, rfl⟩)⟩
    · exact ⟨_, h.trans (List.append_assoc ..), .inr (.inr (.inr ⟨_, _, _, _, _, rfl⟩))⟩
  case inr.inr.inl =>
    rcases stepEnded_events_cases (s.mirrored.withX i.dest v) with h | ⟨n, r, q, h⟩
    · exact ⟨[], h.trans (List.append_nil _).symm, .inl rfl⟩
    · exact ⟨_, h, .inr (.inr (.inl ⟨_, _, _, rfl⟩))⟩
  case inr.inr.inr => exact ⟨[], (List.append_nil _).symm, .inl rfl⟩

/-- What a START that is performed leaves: a run that has begun, or the index fault of an illegal binding
(70_reset_and_hazards.md R243). -/
theorem hostStart_next {r : Option RegFile} {p : Option Word} {s t : State} (h : hostStart r p s = .next t) :
    s.loaded = true ∧ ((s.ipsel.toNat ≤ 5 ∧ t = (s.beginRun r p).setRunning) ∨
      (5 < s.ipsel.toNat ∧ t = (s.beginRun r p).indexFault .ipsel s.ipField)) := by
  have hst : s.status ≠ .running := fun hrun => by cases (hostStart_refused_of_running r p hrun).symm.trans h
  have hloaded : s.loaded = true := by
    by_contra hnot
    cases (hostStart_refused_of_not_loaded r p hst (Bool.eq_false_of_not_eq_true hnot)).symm.trans h
  refine ⟨hloaded, ?_⟩
  rcases Nat.lt_or_ge 5 s.ipsel.toNat with hip | hip
  · cases (hostStart_of_bad_binding r p hst hloaded hip).symm.trans h
    exact .inr ⟨hip, rfl⟩
  · cases (hostStart_of_legal_binding r p hst hloaded hip).symm.trans h
    exact .inl ⟨hip, rfl⟩

/-- What one turn can leave of `s`, but for the moves of the host still to come: the state at rest, what a cycle answers,
or what a performed move of the host writes (10_state.md R43). -/
inductive Turn (s : State) : State → Prop
  | still : Turn s s
  | cycle {u : State} : EngineRuns (s.afterMove []) → step (s.afterMove []) = .next u → Turn s u
  | reset : Turn s s.hostReset
  | load {l : LoadArgs} : l.program.length ≤ Config.imemDepth → Turn s (s.loadProgram l)
  | start (r : Option RegFile) (p : Option Word) : s.loaded = true → s.ipsel.toNat ≤ 5 →
      Turn s (s.beginRun r p).setRunning
  | badBinding (r : Option RegFile) (p : Option Word) : 5 < s.ipsel.toNat →
      Turn s ((s.beginRun r p).indexFault .ipsel s.ipField)
  | cancelLine (level : Bool) : Turn s (s.setCancel level)

/-- A turn of the engine is a turn, whatever moves `rest` of the host follow. -/
theorem turn_of_engine {s u : State} (h : step (s.afterMove []) = .next u) (rest : List HostMove) :
    ∃ v, Turn s v ∧ u.afterMove rest = v.afterMove rest := by
  rcases step_engine_cases (s := s.afterMove []) rfl h with ⟨-, rfl⟩ | hrun
  · exact ⟨s, .still, rfl⟩
  · exact ⟨u, .cycle hrun h, rfl⟩

/-- Every step that answers a next state is a turn, and the move is off the script. -/
theorem turn_of_step {s t : State} (h : step s = .next t) : ∃ u rest, Turn s u ∧ t = u.afterMove rest := by
  cases hscript : s.hostScript with
  | nil =>
    have hs : s.afterMove [] = s := by rw [← hscript]; rfl
    obtain ⟨v, hturn, hv⟩ := turn_of_engine (s := s) (hs.symm ▸ h) t.hostScript
    exact ⟨v, t.hostScript, hturn, hv⟩
  | cons m rest =>
    cases m with
    | wait =>
      rcases outcomesAgree_iff.mp (step_wait_agree hscript) with ⟨u, v, hu, hv, rfl⟩ | ⟨r, -, ht⟩ | ⟨r, -, ht⟩
      · cases hv.symm.trans h
        obtain ⟨v, hturn, hv⟩ := turn_of_engine hu rest
        exact ⟨v, rest, hturn, hv⟩
      · cases ht.symm.trans h
      · cases ht.symm.trans h
    | reset =>
      cases (step_host hscript).symm.trans h
      exact ⟨_, rest, .reset, rfl⟩
    | load l =>
      have hload : hostLoad l (s.afterMove rest) = .next t := (step_host hscript).symm.trans h
      obtain ⟨-, hlen⟩ := hostLoad_next_legal hload
      exact ⟨_, rest, .load hlen, hostLoad_next hload⟩
    | start r p =>
      obtain ⟨hloaded, ⟨hip, rfl⟩ | ⟨hip, rfl⟩⟩ := hostStart_next ((step_host hscript).symm.trans h)
      · exact ⟨_, rest, .start r p hloaded hip, rfl⟩
      · exact ⟨_, rest, .badBinding r p hip, rfl⟩
    | setCancel level =>
      cases (step_host hscript).symm.trans h
      exact ⟨_, rest, .cancelLine level, rfl⟩

/-- Settles O46: only a cycle puts out events, and those of one step. -/
theorem eventsAreOnlyAppended : Obligations.EventsAreOnlyAppended := by
  intro s t hstep
  obtain ⟨u, rest, hturn, rfl⟩ := turn_of_step hstep
  have hsame (h : u.events = s.events) : ∃ l, u.events = s.events ++ l ∧ IsStepEvents l :=
    ⟨[], h.trans (List.append_nil _).symm, .inl rfl⟩
  cases hturn with
  | cycle hrun hcycle => exact engine_step_events (s := s.afterMove []) (t := u) hrun hcycle
  | still | reset | load | start | badBinding | cancelLine => exact hsame rfl

/-- The invariant speaks of the CORE alone: its input line, the history and the host's moves are free. -/
theorem Inv.of_core {s : State} (h : Inv s) (cancel : Bool) (events : List Event) (moves : List HostMove) :
    Inv { s with cancel := cancel, events := events, hostScript := moves } :=
  ⟨h.store, h.binding, h.mirror, h.halted, h.fault, h.bound, h.stepBound, h.unknownCount, h.unknownFlag⟩

/-- The invariant of an IDLE machine: only the store and the counts of the last run are held to anything. -/
theorem inv_of_idle {s : State} (hst : s.status = .idle) (hstore : Memory.wf s.program = true)
    (hcount : s.unkCnt.toNat ≤ s.steps.toNat) (hflag : s.unkF = true ↔ s.unkCnt ≠ 0) : Inv s where
  store := hstore
  binding := by simp [hst]
  mirror := by simp [hst, Status.stopped]
  halted := by simp [hst]
  fault := by simp [hst]
  bound := by simp [hst]
  stepBound := by simp [hst]
  unknownCount := hcount
  unknownFlag := hflag

/-- The invariant of a RUNNING machine. -/
theorem inv_of_running {s : State} (hst : s.status = .running) (hstore : Memory.wf s.program = true)
    (hbinding : s.ipsel.toNat ≤ 5 ∧ s.loaded = true)
    (hbound : s.maxStepsEn = true → s.steps.toNat ≤ s.maxSteps.toNat)
    (hcount : s.unkCnt.toNat ≤ s.steps.toNat) (hflag : s.unkF = true ↔ s.unkCnt ≠ 0) : Inv s where
  store := hstore
  binding := fun _ => hbinding
  mirror := by simp [hst, Status.stopped]
  halted := by simp [hst]
  fault := by simp [hst]
  bound := fun _ => hbound
  stepBound := by simp [hst]
  unknownCount := hcount
  unknownFlag := hflag

/-- Settles O55: after reset the machine is IDLE with an empty store and nothing counted. -/
theorem invariantHoldsAtReset : Obligations.InvariantHoldsAtReset :=
  inv_of_idle rfl memory_wf_reset (Nat.le_refl _) (by decide)

/-- What a cycle's mirror write leaves for every stop: a legal binding with `x[IPSEL] = pc` (10_state.md R42). -/
theorem mirror_of_engineRuns {s : State} (hrun : EngineRuns s) :
    s.ipsel.toNat ≤ 5 ∧ s.mirrored.x s.ipField = s.pc := by
  have ⟨_, _, hip⟩ := hrun
  exact ⟨hip, mirrored_x_ipField hip⟩

section engine

variable {s : State} (hinv : Inv s) (hrun : EngineRuns s)
include hinv hrun

/-- A cycle that ends in a stopping test leaves `x[IPSEL] = pc` and the cause of its status (10_state.md R42,
60_exceptions.md R203, R209). -/
theorem inv_stop {st : Status} (hst : s.stopTest = some st) : Inv (s.mirrored.stop st) where
  store := hinv.store
  binding := by
    rintro rfl
    rcases stopTest_cases hst with ⟨h, -⟩ | ⟨h, -⟩ | ⟨h, -⟩ <;> cases h
  mirror := fun _ _ => mirror_of_engineRuns hrun
  halted := by
    rintro rfl
    rcases stopTest_cases hst with ⟨-, hout⟩ | ⟨h, -⟩ | ⟨h, -⟩
    · exact hout
    · cases h
    · cases h
  fault := fun h => absurd h (stopTest_ne_faultRegIdx hst)
  bound := fun _ => hinv.bound (by simp [hrun.1])
  stepBound := by
    rintro rfl
    rcases stopTest_cases hst with ⟨h, -⟩ | ⟨h, -⟩ | ⟨-, -, -, hbound⟩
    · cases h
    · cases h
    · exact steps_eq_of_boundReached (s := s) hinv hrun.1 hbound
  unknownCount := hinv.unknownCount
  unknownFlag := hinv.unknownFlag

/-- An index fault names the stopped `pc` and an index that is out of range (60_exceptions.md R207). -/
theorem inv_indexFault {fld : FieldId} {idx : Field} (hidx : 5 < idx.toNat) : Inv (s.mirrored.indexFault fld idx) where
  store := hinv.store
  binding := nofun
  mirror := fun _ _ => mirror_of_engineRuns hrun
  halted := nofun
  fault := fun _ => ⟨rfl, hidx⟩
  bound := fun _ => hinv.bound (by simp [hrun.1])
  stepBound := nofun
  unknownCount := hinv.unknownCount
  unknownFlag := hinv.unknownFlag

/-- A completed step keeps the run within its bound, whatever it did to the registers, and counts at most one warning
(10_state.md R30, R34). -/
theorem inv_stepEnded {u : State} (hstop : s.stopTest = none) (hst : u.status = s.status) (hloaded : u.loaded = s.loaded)
    (hparameters : u.loadedParameters = s.loadedParameters) (hsteps : u.steps = s.steps)
    (hcount : u.unkCnt.toNat ≤ s.unkCnt.toNat + 1) (hflag : u.unkF = true ↔ u.unkCnt ≠ 0) : Inv u.stepEnded := by
  obtain ⟨hprogram, hipsel, hen, hmax, -⟩ := loadedParameters_eq_iff.mp hparameters
  obtain ⟨-, -, hfree⟩ := stopTest_none hstop
  obtain ⟨hrunning, -, hip⟩ := hrun
  obtain ⟨-, hsloaded⟩ := hinv.binding hrunning
  have hsucc : u.stepEnded.steps.toNat = s.steps.toNat + 1 := by
    rw [State.stepEnded_steps, hsteps]
    exact toNat_steps_succ fun hlimit => hfree (.inr hlimit)
  have hcounted : s.unkCnt.toNat ≤ s.steps.toNat := hinv.unknownCount
  refine inv_of_running (hst.trans hrunning) ?store ⟨?ipsel, hloaded.trans hsloaded⟩ ?bound ?count hflag
  case store => rw [State.stepEnded_program, hprogram, hinv.store]
  case ipsel => rwa [State.stepEnded_ipsel, hipsel]
  case bound =>
    rw [hsucc, State.stepEnded_maxStepsEn, State.stepEnded_maxSteps, hen, hmax]
    exact fun h => Nat.lt_of_not_le fun hle => hfree (.inl ⟨h, hle⟩)
  case count =>
    rw [hsucc, State.stepEnded_unkCnt]
    omega

/-- A warning sets the flag, and the count, which is below the limit as STEPS is, does not wrap (10_state.md R34). -/
theorem inv_unknownOpcode (hstop : s.stopTest = none) (op : Field) :
    Inv (s.mirrored.unknownWarned op).stepEnded := by
  obtain ⟨-, -, hfree⟩ := stopTest_none hstop
  have hlimit : s.unkCnt.toNat ≠ 2 ^ 64 - 1 := by
    intro h
    have hcount := hinv.unknownCount
    have hsteps := s.steps.isLt
    exact hfree (.inr (by omega))
  have hsucc : (s.unkCnt + 1).toNat = s.unkCnt.toNat + 1 := toNat_steps_succ hlimit
  have hnonzero : s.unkCnt + 1 ≠ 0 := by
    intro h
    rw [h] at hsucc
    cases hsucc
  exact inv_stepEnded hinv hrun hstop rfl rfl rfl rfl (Nat.le_of_eq hsucc) (iff_of_true rfl hnonzero)

end engine

/-- The index an instruction's fault reports is out of range (30_encoding.md R92). -/
theorem five_lt_of_exec_indexFault {i : Instr} {s : State} {fld : FieldId} {idx : Field} (hst : s.status = .running)
    (h : exec i s = .next (s.indexFault fld idx)) : 5 < idx.toNat := by
  cases hbad : i.firstBadIndex with
  | none =>
    obtain ⟨-, v, hexec⟩ := exec_of_firstBadIndex_none s hbad
    have hstatus : s.status = .faultRegIdx := by
      injection hexec.symm.trans h with heq
      exact congrArg State.status heq
    cases hst.symm.trans hstatus
  | some p =>
    have hidx : p.2 = idx := by
      injection (exec_of_firstBadIndex (fld := p.1) (idx := p.2) s hbad).symm.trans h with heq
      exact congrArg State.faultIdx heq
    have hout : ¬IsReg p.2 := by simpa using List.find?_some hbad
    rw [← hidx]
    exact Nat.lt_of_not_le hout

/-- A cycle keeps the invariant. -/
theorem inv_of_engine_step {s t : State} (hinv : Inv s) (hrun : EngineRuns s) (hstep : step s = .next t) : Inv t := by
  rcases step_cases hrun hstep with
    ⟨st, hst, rfl⟩ | ⟨hstop, w, -, ⟨op, -, rfl⟩ | ⟨i, -, ⟨v, -, rfl⟩ | ⟨fld, idx, hexec, rfl⟩⟩⟩
  case inl => exact inv_stop hinv hrun hst
  case inr.inl => exact inv_unknownOpcode hinv hrun hstop op
  case inr.inr.inl =>
    exact inv_stepEnded hinv hrun (u := s.mirrored.withX i.dest v) hstop rfl rfl rfl rfl (Nat.le_succ _)
      hinv.unknownFlag
  case inr.inr.inr =>
    exact inv_indexFault hinv hrun (five_lt_of_exec_indexFault (s := s.mirrored) hrun.1 hexec)

/-- A START that takes the index fault on IPSEL leaves the begun run's counts and an index out of range (60_exceptions.md
R207 (b)). -/
theorem inv_badBinding {s : State} (hinv : Inv s) (r : Option RegFile) (p : Option Word) (hip : 5 < s.ipsel.toNat) :
    Inv ((s.beginRun r p).indexFault .ipsel s.ipField) where
  store := hinv.store
  binding := nofun
  mirror := fun _ h => absurd ⟨rfl, rfl⟩ h
  halted := nofun
  fault := fun _ => ⟨rfl, by rw [State.indexFault_faultIdx, ipField_toNat]; exact hip⟩
  bound := fun _ _ => Nat.zero_le _
  stepBound := nofun
  unknownCount := Nat.le_refl _
  unknownFlag := by simp

/-- Settles O56: every turn keeps the invariant, which does not speak of the host's moves. -/
theorem everyStepKeepsTheInvariant : Obligations.EveryStepKeepsTheInvariant := by
  intro s t hinv hstep
  obtain ⟨u, rest, hturn, rfl⟩ := turn_of_step hstep
  suffices h : Inv u from h.of_core u.cancel u.events rest
  cases hturn with
  | still => exact hinv
  | cycle hrun hcycle => exact inv_of_engine_step (hinv.of_core s.cancel s.events []) hrun hcycle
  | reset => exact invariantHoldsAtReset.of_core s.cancel s.events s.hostScript
  | load hlen => exact inv_of_idle rfl ((memory_wf_iff _).mpr hlen) hinv.unknownCount hinv.unknownFlag
  | start r p hloaded hip =>
    exact inv_of_running rfl hinv.store ⟨hip, hloaded⟩ (fun _ => Nat.zero_le _) (Nat.le_refl _) (by simp)
  | badBinding r p hip => exact inv_badBinding hinv r p hip
  | cancelLine level => exact hinv.of_core level s.events s.hostScript

/-- A cycle with a legal binding always answers a next state: a `pc` that passes the bounds test is the index of a word
(20_memory.md R63). -/
theorem engine_step_next {s : State} (hrun : EngineRuns s) : ∃ t, step s = .next t := by
  cases hst : s.stopTest with
  | some st => exact ⟨_, step_of_stopTest hrun hst⟩
  | none =>
    obtain ⟨hpc, hcancel, hbound⟩ := stopTest_none hst
    have hs : Steppable s := ⟨hrun, hpc, hcancel, hbound⟩
    have hindex : s.pc.toNat < s.program.length := toNat_pc_lt_of_pcInside hpc
    have hw : s.program[s.pc.toNat]? = some s.program[s.pc.toNat] := List.getElem?_eq_getElem hindex
    cases hd : decode s.program[s.pc.toNat] with
    | unknownOpcode op => exact ⟨_, step_unknownOpcode hs hw hd⟩
    | instr i =>
      rcases exec_cases i s.mirrored with ⟨v, hexec⟩ | ⟨fld, idx, hexec⟩
      · exact ⟨_, step_of_exec_withX hs hw hd hexec⟩
      · exact ⟨_, step_of_exec_stopped hs hw hd hexec nofun⟩

/-- Under the invariant a turn of the engine answers a next state. -/
theorem step_next_of_inv {s : State} (hinv : Inv s) (hscript : s.hostScript = []) : ∃ t, step s = .next t := by
  by_cases hrun : s.status = .running
  · obtain ⟨hip, -⟩ := hinv.binding hrun
    exact engine_step_next ⟨hrun, hscript, hip⟩
  · exact ⟨s, step_still hrun hscript⟩

theorem hostLoad_ne_fault (l : LoadArgs) (s : State) (r : Fault) : hostLoad l s ≠ .fault r := by
  rw [hostLoad]
  split_ifs <;> nofun

theorem hostStart_ne_fault (regs : Option RegFile) (pc : Option Word) (s : State) (r : Fault) :
    hostStart regs pc s ≠ .fault r := by
  rw [hostStart]
  split_ifs
  · nofun
  · nofun
  · split <;> nofun

/-- Settles O57: the engine's turn answers a next state, behind a wait as without one, and no move of the host faults. -/
theorem noStepFaults : Obligations.NoStepFaults := by
  intro s hinv
  refine ⟨fun r => ?_, step_next_of_inv hinv⟩
  cases hscript : s.hostScript with
  | nil =>
    obtain ⟨t, ht⟩ := step_next_of_inv hinv hscript
    rw [ht]
    nofun
  | cons m rest =>
    cases m with
    | wait =>
      obtain ⟨u, hu⟩ := step_next_of_inv (hinv.of_core s.cancel s.events []) rfl
      intro hfault
      have hagree := step_wait_agree hscript
      rw [hfault, show step (s.afterMove []) = .next u from hu] at hagree
      exact hagree
    | reset => rw [step_host hscript]; nofun
    | load l => rw [step_host hscript]; exact hostLoad_ne_fault l _ r
    | start regs pc => rw [step_host hscript]; exact hostStart_ne_fault regs pc _ r
    | setCancel level => rw [step_host hscript]; nofun

end Sys2Proof.Machine
